-- ==== Sys2Proof/Word.lean ====
section
/-! DEFINITION. The selector word, the sample byte, and the shapes the six lanes come in:
two sub-panels times three colours (spec 30_encoding.md R92, 20_memory.md R74, 41_color_pipeline.md R130). -/

namespace Sys2Proof

/-- The 8-bit selector word of a cycle (30 R92). -/
abbrev Word := BitVec 8

/-- One component of a colour-source answer, an unsigned 8-bit intensity (20 R74). -/
abbrev Byte := BitVec 8

/-- The two physical sub-panels that share a bank address (00 R6, R9). -/
inductive SubPanel where
  | sub0
  | sub1
  deriving DecidableEq, Repr, Inhabited

/-- The sub-panel's number k of 41 R131. -/
def SubPanel.index : SubPanel → Nat
  | .sub0 => 0
  | .sub1 => 1

/-- The three colours of a lane (41 R130). -/
inductive Colour where
  | r
  | g
  | b
  deriving DecidableEq, Repr, Inhabited

/-- Three values in the order (r, g, b); a tuple, not a packed word (20 R79). -/
structure Rgb (α : Type) where
  r : α
  g : α
  b : α
  deriving DecidableEq, Repr, Inhabited

/-- The c component of a colour triple. -/
def Rgb.get {α : Type} (t : Rgb α) : Colour → α
  | .r => t.r
  | .g => t.g
  | .b => t.b

/-- The same function on each of the three components. -/
def Rgb.map {α β : Type} (f : α → β) (t : Rgb α) : Rgb β :=
  ⟨f t.r, f t.g, f t.b⟩

/-- One value for each lane [k][c] (10 R40, 41 R130). -/
structure Lanes (α : Type) where
  sub0 : Rgb α
  sub1 : Rgb α
  deriving DecidableEq, Repr, Inhabited

/-- The triple of sub-panel k. -/
def Lanes.sub {α : Type} (l : Lanes α) : SubPanel → Rgb α
  | .sub0 => l.sub0
  | .sub1 => l.sub1

/-- The value of lane [k][c]. -/
def Lanes.get {α : Type} (l : Lanes α) (k : SubPanel) (c : Colour) : α :=
  (l.sub k).get c

/-- The same function on each of the six lanes. -/
def Lanes.map {α β : Type} (f : α → β) (l : Lanes α) : Lanes β :=
  ⟨l.sub0.map f, l.sub1.map f⟩

end Sys2Proof
end

