-- ==== Sys2Proof/Syntax.lean ====
section
/-! DEFINITION. The rows of spec/opcode_table.json, one constructor each. Every operand of every row is
implicit (30_encoding.md R95), so no constructor has an argument. -/

namespace Sys2Proof

/-- The step arms (43 R171 to R184), the reserved row (R185), the combinational operations of every cycle
and the construction-time functions. -/
inductive Instr where
  -- class seq: one is selected in each cycle
  | idle
  | shiftWait
  | shiftRise
  | shiftFall
  | shiftLast
  | latchPreWait
  | latchPreEnd
  | latchWait
  | latchEnd
  | latchPostWait
  | latchPostEnd
  | blankWait
  | blankEndPlane
  | blankEndBank
  -- class reserved
  | reservedState
  -- class comb: each acts in every cycle
  | gammaLookup
  | laneBit
  | outputRegister
  -- class config: each runs once, at construction
  | gammaBuild
  | planWait
  | planIoFreq
  | planTransferTime
  | planFrameTime
  | configValidate
  deriving DecidableEq, Repr

end Sys2Proof
end

