-- ==== Sys2Proof/WellFormed.lean ====
section
/-! DEFINITION. Which instructions a selector word can select (30_encoding.md R93, R94). -/

namespace Sys2Proof

/-- The class of a row of opcode_table.json (30 R94). -/
inductive RowClass where
  /-- a step arm, selected by the selector word -/
  | seq
  /-- the reserved row, selected by the state codes 110 and 111 -/
  | reserved
  /-- acts in every cycle, whatever the selector word -/
  | comb
  /-- runs once at construction, in no cycle -/
  | config
  deriving DecidableEq, Repr

/-- The class of each row. -/
def Instr.rowClass : Instr → RowClass
  | .idle | .shiftWait | .shiftRise | .shiftFall | .shiftLast => .seq
  | .latchPreWait | .latchPreEnd | .latchWait | .latchEnd | .latchPostWait | .latchPostEnd => .seq
  | .blankWait | .blankEndPlane | .blankEndBank => .seq
  | .reservedState => .reserved
  | .gammaLookup | .laneBit | .outputRegister => .comb
  | .gammaBuild | .planWait | .planIoFreq | .planTransferTime | .planFrameTime | .configValidate => .config

/-- Well-formed as the instruction of a cycle: some selector word selects it. The `comb` rows are selected
by no word (30 R94), and the `config` rows run in no cycle. -/
def Instr.wf (i : Instr) : Bool :=
  match i.rowClass with
  | .seq | .reserved => true
  | .comb | .config => false

end Sys2Proof
end

