-- ==== Sys2Proof/Decode.lean ====
section
/-! DEFINITION. The step-arm map of 30_encoding.md R100: decoding a selector word, and after it the encoder.
State codes and the layout of the word are the spec's own decisions D11 and D12 (log 9). -/

namespace Sys2Proof

/-- One row of the map of 30 R100: the arm and the match and mask that select it. -/
structure ArmRow where
  instr : Instr
  pattern : Word
  mask : Word
  deriving DecidableEq, Repr

/-- The row selects the word: the bits under the mask are the match. -/
def ArmRow.selects (row : ArmRow) (w : Word) : Bool :=
  w &&& row.mask == row.pattern

/-- The rows of 30 R100 that a selector word can match, in the table's order: the 14 step arms and the
reserved row. -/
def armTable : List ArmRow :=
  [ ⟨.idle,          0x00, 0xE0⟩,
    ⟨.shiftWait,     0x20, 0xF0⟩,
    ⟨.shiftRise,     0x30, 0xF8⟩,
    ⟨.shiftFall,     0x38, 0xFC⟩,
    ⟨.shiftLast,     0x3C, 0xFC⟩,
    ⟨.latchPreWait,  0x40, 0xF0⟩,
    ⟨.latchPreEnd,   0x50, 0xF0⟩,
    ⟨.latchWait,     0x60, 0xF0⟩,
    ⟨.latchEnd,      0x70, 0xF0⟩,
    ⟨.latchPostWait, 0x80, 0xF0⟩,
    ⟨.latchPostEnd,  0x90, 0xF0⟩,
    ⟨.blankWait,     0xA0, 0xE2⟩,
    ⟨.blankEndPlane, 0xA2, 0xE3⟩,
    ⟨.blankEndBank,  0xA3, 0xE3⟩,
    ⟨.reservedState, 0xC0, 0xC0⟩ ]

/-- The instruction the selector word selects (30 R92, R100). Every word matches exactly one row (R93). -/
def decode (w : Word) : Option Instr :=
  (armTable.find? (·.selects w)).map (·.instr)

/-- Why a byte string is no instruction of a cycle. -/
inductive Reject where
  /-- there is no selector word at all -/
  | noWord
  /-- every cycle decodes exactly one 8-bit word (30 R102); here are more -/
  | moreThanOneWord
  /-- no row selects the word; never the case (30 R93) -/
  | noArm
  deriving DecidableEq, Repr

/-- Decoding of any byte string: one byte is one selector word, anything else is rejected by name. -/
def decodeBytes : List Byte → Except Reject Instr
  | [] => .error .noWord
  | [w] =>
    match decode w with
    | some i => .ok i
    | none => .error .noArm
  | _ :: _ :: _ => .error .moreThanOneWord

/-- The bytes of an instruction whose bits are w, first byte lowest: nbits of them, in whole bytes. -/
def wordBytes : (nbytes w : Nat) → List Byte
  | 0, _ => []
  | n + 1, w => BitVec.ofNat 8 w :: wordBytes n (w / 256)

/-- The instruction the decoder reads from an instruction of the opcode table's numbering. -/
def decodeTableWord (nbits w : Nat) : Option Instr :=
  match decodeBytes (wordBytes ((nbits + 7) / 8) (w % 2 ^ nbits)) with
  | .ok i => some i
  | .error _ => none

/-- The row of an instruction, if a selector word can select it. -/
def armRow? (i : Instr) : Option ArmRow :=
  armTable.find? (·.instr == i)

/-- The selector words of an instruction: its match, with the bits its row does not test taken from `fill`.
A `comb` or `config` row has no selector word of its own (30 R94). -/
def encode (i : Instr) (fill : Word) : Option Word :=
  (armRow? i).map fun row => row.pattern ||| (fill &&& ~~~row.mask)

end Sys2Proof
end

