-- ==== Sys2Proof/Config.lean ====
section
/-! DEFINITION. What is fixed before the first cycle (00_scope.md R8), the same as the host supplies it
before any check (60_exceptions.md R224), and the one free value: the colour source's answers. -/

namespace Sys2Proof

/-- The configuration fields by the names of 00 R8, for the refusal Unmodelled(field) of 60 R224. -/
inductive ConfigField where
  | chainLength
  | bankCount
  | planeCount
  | clkDelay
  | shortestTimeslot
  | gamma
  | srcBits
  | dstBits
  | clkFreq
  | refreshFloor
  | blankCounterWidth
  deriving DecidableEq, Repr

/-- An admitted configuration (00 R8): every field has the type the spec gives it. `src_bits` is fixed at 8
(40 R118) and so is no field. A parameter of the step, immutable once the core is constructed (10 R43). -/
structure Config where
  /-- N, pixels per row scanned per bank -/
  chainLength : Nat
  /-- B, number of row-address values; also the sub-panel row offset (00 R9) -/
  bankCount : Nat
  /-- P, number of bit-planes -/
  planeCount : Nat
  /-- D, shift-clock half-period in core cycles -/
  clkDelay : Nat
  /-- T, exponent of the shortest blanking window -/
  shortestTimeslot : Nat
  /-- the gamma exponent, a positive integer -/
  gamma : Nat
  /-- G, gamma table result width -/
  dstBits : Nat
  /-- F, core clock frequency in Hz -/
  clkFreq : Rat
  /-- FLOOR, the caller's minimum refresh rate in Hz, if any -/
  refreshFloor : Option Rat
  /-- BCW, width of `blank_counter` in bits -/
  blankCounterWidth : Nat
  deriving DecidableEq, Repr

/-- A configuration as the host supplies it (70 R254 step 1), before the admission of 60 R224: any rational in
any field. An absent `blankCounterWidth` takes the default of 00 R8. -/
structure Request where
  chainLength : Rat
  bankCount : Rat
  planeCount : Rat
  clkDelay : Rat
  shortestTimeslot : Rat
  gamma : Rat
  srcBits : Rat
  dstBits : Rat
  clkFreq : Rat
  refreshFloor : Option Rat
  blankCounterWidth : Option Rat
  deriving DecidableEq, Repr

/-- The reference configuration of 00 R8, with N = 64 of the reference scenario (95_test_vectors.md "ref").
DESIGN CHOICE (log 2): the source gives N no default. -/
def Config.reference : Config where
  chainLength := 64
  bankCount := 16
  planeCount := 12
  clkDelay := 4
  shortestTimeslot := 3
  gamma := 5
  dstBits := 12
  clkFreq := 75000000
  refreshFloor := none
  blankCounterWidth := 14

/-- The request that asks for the reference configuration. -/
def Request.reference : Request where
  chainLength := 64
  bankCount := 16
  planeCount := 12
  clkDelay := 4
  shortestTimeslot := 3
  gamma := 5
  srcBits := 8
  dstBits := 12
  clkFreq := 75000000
  refreshFloor := none
  blankCounterWidth := none

/-- FREE VALUE (20 R77, 93 U4; log 4): the answer of the colour source to query number n. The spec puts no
constraint on it, so it has no body. -/
opaque Config.sampleDraw : Nat → Rgb Byte

end Sys2Proof
end

