-- ==== Sys2Proof/Machine/Regs.lean ====
section
/-! DEFINITION. The two register sets of the core (10_state.md R30), their reset values (R46), the combinational
signals of a cycle, the exposed planner values (42 R158), and what the outside world can be: a colour source and
a list of host actions. -/

namespace Sys2Proof.Machine

/-- The 3-bit `state` register (10 R31, 00 R10): six states, and the two reserved codes of 30 R91, which no rule
writes. -/
inductive SeqState where
  | idle
  | shiftOut
  | latchPre
  | latch
  | latchPost
  | blank
  /-- code 110, reserved (30 R91) -/
  | reserved110
  /-- code 111, reserved (30 R91) -/
  | reserved111
  deriving DecidableEq, Repr

/-- One of the two reserved codes of 30 R91. -/
def SeqState.isReserved : SeqState → Bool
  | .reserved110 | .reserved111 => true
  | .idle | .shiftOut | .latchPre | .latch | .latchPost | .blank => false

/-- The sequencer registers (10 R30 to R37). Each counter is a natural number, whose range is an invariant
(R47) and no width (00 R10; log 6). -/
structure SeqRegs where
  state : SeqState
  pixelIndex : Nat
  bank : Nat
  bitPlane : Nat
  delayCounter : Nat
  blankCounter : Nat
  sclk : Bool
  deriving DecidableEq, Repr

/-- The output registers, the core's pins (10 R40). `oe` is active low. -/
structure OutRegs where
  clk : Bool
  stb : Bool
  oe : Bool
  bank : Nat
  lane : Lanes Bool
  deriving DecidableEq, Repr

/-- The combinational signals of the pixel pipeline in a cycle: the colour source's answers (20 R75), the gamma
values `gv` (40 R116) and the lane decisions `lane_c` (41 R133). The MODEL's own field, not a register: every
cycle computes all of them before anything reads them (log 3). -/
structure Signals where
  answers : Lanes Byte
  gv : Lanes Nat
  lane : Lanes Bool
  deriving DecidableEq, Repr

/-- What the TimingPlanner derives once and exposes (42 R158): the schedule `wait[0..P-1]`, which the sequencer
reads, and three values that no step reads. -/
structure Plan where
  /-- cycles, indexed by the bit-plane (42 R151) -/
  wait : List Nat
  /-- Hz (42 R153) -/
  ioFreq : Rat
  /-- seconds (42 R154) -/
  transferTime : Rat
  /-- seconds (42 R155) -/
  frameTime : Rat
  deriving DecidableEq, Repr

/-- The collaborator that answers the core's queries (20 R74 to R78; the SOURCE line of 30 R104). -/
inductive ColourSource where
  /-- every answer is a free draw (20 R77) -/
  | draw
  /-- a static image, `rows[y][x]`; a query outside what is listed is a free draw (log 4) -/
  | image (rows : List (List (Rgb Byte)))
  /-- the answers of the cycles to come, one entry a cycle; when it is used up, free draws (log 4) -/
  | sequence (answers : List (Lanes Byte))
  deriving DecidableEq, Repr

/-- What the host does to the core (70 R254, R262). The MODEL's own input list (log 5). -/
inductive HostAction where
  /-- supply a configuration and construct the core with it (70 R254 steps 1 and 2, R255) -/
  | construct (r : Request)
  /-- connect a colour source (70 R254 step 4) -/
  | connect (src : ColourSource)
  /-- assert the reset input (60 R226) -/
  | assertReset
  /-- release the reset input; the next clock edge ends cycle 0 (70 R250) -/
  | releaseReset
  /-- one clock edge -/
  | clock
  deriving DecidableEq, Repr

/-- The reset values of the sequencer registers (10 R46; the values but `state` are decisions D3 to D5 of the
spec, log 10). -/
def resetSeqRegs (c : Config) : SeqRegs where
  state := .idle
  pixelIndex := 0
  bank := 0
  bitPlane := c.planeCount - 1
  delayCounter := c.clkDelay - 1
  blankCounter := 0
  sclk := false

/-- All six lanes 0. -/
def darkLanes : Lanes Bool :=
  ⟨⟨false, false, false⟩, ⟨false, false, false⟩⟩

/-- The reset values of the output registers (10 R46; decision D6 of the spec, log 10). -/
def resetOutRegs : OutRegs where
  clk := false
  stb := false
  oe := true
  bank := 0
  lane := darkLanes

/-- The signals before any cycle has run. DESIGN CHOICE (log 3): nothing reads them. -/
def quietSignals : Signals where
  answers := ⟨⟨0, 0, 0⟩, ⟨0, 0, 0⟩⟩
  gv := ⟨⟨0, 0, 0⟩, ⟨0, 0, 0⟩⟩
  lane := darkLanes

end Sys2Proof.Machine
end

