-- ==== Sys2Proof/Machine/Constants.lean ====
section
/-! DEFINITION. The functions evaluated once at construction, on a configuration alone: the gamma table
(40_gamma.md) and the timing planner (42_timing_planner.md). -/

namespace Sys2Proof.Machine

/-- One entry of the gamma table in exact integer arithmetic (40 R111): `(i^γ * (2^G - 1)) // 255^γ`, the floor
of 40 R110 (90 C1; log 13). -/
def gammaEntry (c : Config) (i : Nat) : Nat :=
  i ^ c.gamma * (2 ^ c.dstBits - 1) / 255 ^ c.gamma

/-- The gamma table GT[0..255] (40 R110). -/
def gammaTableOf (c : Config) : Vector Nat 256 :=
  ⟨((List.range 256).map (gammaEntry c)).toArray, by simp⟩

/-- `wait[p] = 2^(p + T)`, the blanking duration of plane p in cycles (42 R151). -/
def waitCycles (c : Config) (p : Nat) : Nat :=
  2 ^ (p + c.shortestTimeslot)

/-- The schedule `wait[0..P-1]` (42 R151). -/
def waitSchedule (c : Config) : List Nat :=
  (List.range c.planeCount).map (waitCycles c)

/-- The sum of the schedule, in cycles (42 R152). -/
def totalWait (c : Config) : Nat :=
  (waitSchedule c).sum

/-- `io_freq = F / (2 D)` in Hz (42 R153). -/
def ioFreqOf (c : Config) : Rat :=
  c.clkFreq / (2 * c.clkDelay)

/-- `transfer_time = (N + 1) / io_freq` in seconds (42 R154). -/
def transferTimeOf (c : Config) : Rat :=
  (c.chainLength + 1) / ioFreqOf c

/-- The per-bank blanking time in seconds (42 R157). -/
def blankingTimeOf (c : Config) : Rat :=
  totalWait c / c.clkFreq

/-- `frame_time = (sum of wait / F + transfer_time) * B` in seconds (42 R155). -/
def frameTimeOf (c : Config) : Rat :=
  (blankingTimeOf c + transferTimeOf c) * c.bankCount

/-- The planner's refresh rate in Hz (42 R156). -/
def refreshRateOf (c : Config) : Rat :=
  1 / frameTimeOf c

/-- Everything the planner exposes (42 R158). -/
def planOf (c : Config) : Plan where
  wait := waitSchedule c
  ioFreq := ioFreqOf c
  transferTime := transferTimeOf c
  frameTime := frameTimeOf c

/-- The real length of the plane period of plane p, in cycles (42 R160, 43 R199). -/
def planeCycles (c : Config) (p : Nat) : Nat :=
  1 + 2 * c.chainLength * c.clkDelay + 3 * c.clkDelay + waitCycles c p

/-- The real length of a bank sweep, in cycles (42 R160). -/
def bankCycles (c : Config) : Nat :=
  c.planeCount * (1 + 2 * c.chainLength * c.clkDelay + 3 * c.clkDelay)
    + 2 ^ c.shortestTimeslot * (2 ^ c.planeCount - 1)

/-- The real length of a frame, in cycles (42 R160). -/
def frameCycles (c : Config) : Nat :=
  c.bankCount * bankCycles c

end Sys2Proof.Machine
end

