-- ==== Sys2Proof/Machine/State.lean ====
section
/-! DEFINITION. The state of the machine as plain data, the reasons a step can stop, and the state right after
reset (10_state.md R46). -/

namespace Sys2Proof.Machine

/-- The core's two error codes, raised only at construction (60 R221). -/
inductive ErrorCode where
  | invalidGeometry
  | invalidTimingBudget
  deriving DecidableEq, Repr

/-- The numbers of 60 R221 (decision D28 of the spec). -/
def ErrorCode.number : ErrorCode → Nat
  | .invalidGeometry => 1
  | .invalidTimingBudget => 2

/-- The eight checks of construction, in the order of 60 R222. -/
inductive CheckId where
  | gChain
  | gBankZero
  | gBankPow2
  | tPlanes
  | tDelay
  | tFreq
  | tBlankWidth
  | tRefresh
  deriving DecidableEq, Repr

/-- Why the machine stops with a fault. The core has no runtime fault (60 R220). -/
inductive Fault where
  /-- `raise ConfigError(code, check)` of 60 R221, R222: raised by CONFIG_VALIDATE for a configuration that fails
  a check, so also by a step that takes the host action `construct`. There is no core and no cycle after it
  (R223). Safe: the spec gives no next state. -/
  | configError (code : ErrorCode) (check : CheckId)
  deriving DecidableEq, Repr

/-- Why a step has no meaning. -/
inductive Refusal where
  /-- an instruction without a meaning yet; no arm answers so. Safe. -/
  | notModelled (mnemonic : String)
  /-- UnreachableState of 43 R185: raised by RESERVED_STATE, and by a clock edge with the state code 110 or 111.
  Safe: the spec asks for the refusal. -/
  | unreachableState
  /-- Unmodelled(field) of 60 R224: raised by CONFIG_VALIDATE for a request with a field outside the types of
  00 R8. Safe: the spec asks for the refusal. -/
  | unmodelled (field : ConfigField)
  /-- the host constructs while reset is released, a move the spec's model does not have (70 R255, R262, decision
  D25): raised by the host action `construct`. Safe: it only stops (log 23). -/
  | reconfigureWithoutReset
  /-- no row of the step-arm map selects the word: raised by a clock edge, and never the case (30 R93). Safe. -/
  | undecodable
  deriving DecidableEq, Repr

/-- The machine. `seq` and `out` are the registers (10 R30); `request`, `cfg`, `gammaTable` and `plan` are the
constants of the constructed core (10 R43, R44), which no clock edge writes (log 1); `sig` holds the combinational
signals of the last cycle (log 3); `resetLine`, `source`, `draws` and `host` are the outside world (log 4, 5, 11). -/
structure State where
  /-- the configuration as supplied (70 R254 step 1) -/
  request : Request
  /-- the validated configuration (10 R43) -/
  cfg : Config
  /-- GT (40 R110) -/
  gammaTable : Vector Nat 256
  /-- the planner's values (42 R158) -/
  plan : Plan
  /-- the sequencer registers (10 R30) -/
  seq : SeqRegs
  /-- the output registers (10 R40) -/
  out : OutRegs
  /-- combinational signals of the last cycle; the MODEL's own -/
  sig : Signals
  /-- the reset input, true = asserted (70 R250) -/
  resetLine : Bool
  /-- the connected colour source (20 R74) -/
  source : ColourSource
  /-- queries made so far, the number of the next free draw; the MODEL's own -/
  draws : Nat
  /-- the host's actions still to come; none left means clock edges for ever; the MODEL's own -/
  host : List HostAction
  deriving DecidableEq, Repr

/-- Cycle 0 of the constructed reference core: reset is released, and every register holds its reset value
(10 R46, 70 R250, R254). The configuration is the reference one (log 2), the colour source is free (log 4), and the
clock runs (log 5). -/
def State.reset : State where
  request := Request.reference
  cfg := Config.reference
  gammaTable := gammaTableOf Config.reference
  plan := planOf Config.reference
  seq := resetSeqRegs Config.reference
  out := resetOutRegs
  sig := quietSignals
  resetLine := false
  source := .draw
  draws := 0
  host := []

end Sys2Proof.Machine
end

