-- ==== Sys2Proof/Machine/Flags.lean ====
section
/-! DEFINITION. The five condition bits (10_state.md R42), the state codes (30_encoding.md R90) and the selector
word assembled from them (R92). The core stores no flag. -/

namespace Sys2Proof.Machine

/-- DZ: the delay counter has run out. -/
def condDZ (s : State) : Bool :=
  s.seq.delayCounter == 0

/-- SC: the shift clock is high. -/
def condSC (s : State) : Bool :=
  s.seq.sclk

/-- PL: the last pixel of the chain. For N = 0, which no construction accepts, N - 1 is 0 here (log 7). -/
def condPL (s : State) : Bool :=
  s.seq.pixelIndex == s.cfg.chainLength - 1

/-- BZ: the blank counter has run out. -/
def condBZ (s : State) : Bool :=
  s.seq.blankCounter == 0

/-- PZ: the least significant plane. -/
def condPZ (s : State) : Bool :=
  s.seq.bitPlane == 0

/-- The 3-bit code of a state (30 R90; decision D11 of the spec, log 9). -/
def stateCode : SeqState → BitVec 3
  | .idle => 0b000
  | .shiftOut => 0b001
  | .latchPre => 0b010
  | .latch => 0b011
  | .latchPost => 0b100
  | .blank => 0b101
  | .reserved110 => 0b110
  | .reserved111 => 0b111

/-- The state with a 3-bit code. -/
def stateOfCode (c : BitVec 3) : SeqState :=
  match c.toNat with
  | 0 => .idle
  | 1 => .shiftOut
  | 2 => .latchPre
  | 3 => .latch
  | 4 => .latchPost
  | 5 => .blank
  | 6 => .reserved110
  | _ => .reserved111

/-- `{ code[2:0], DZ, SC, PL, BZ, PZ }`, bit 7 first (30 R92; decision D12 of the spec, log 9). -/
def packSelector (code : BitVec 3) (dz sc pl bz pz : Bool) : Word :=
  code ++ BitVec.ofBool dz ++ BitVec.ofBool sc ++ BitVec.ofBool pl ++ BitVec.ofBool bz ++ BitVec.ofBool pz

/-- The selector word of the current cycle (30 R92). It takes the place of an instruction fetch. -/
def selectorWord (s : State) : Word :=
  packSelector (stateCode s.seq.state) (condDZ s) (condSC s) (condPL s) (condBZ s) (condPZ s)

end Sys2Proof.Machine
end

