-- ==== Sys2Proof/Machine/Operands.lean ====
section
/-! DEFINITION. The implicit operands of the arms: reload values, successors, and the addresses of the two
read-only spaces (30_encoding.md R95 to R99). -/

namespace Sys2Proof.Machine

/-- The delay reload value `D - 1` (30 R95). -/
def delayReload (s : State) : Nat :=
  s.cfg.clkDelay - 1

/-- `wait[bit_plane]`, read from the schedule (30 R96). For a bit-plane outside the schedule, which no reachable
state holds, it is the closed form `2^(bit_plane + T)` that R96 gives beside the read (log 19). -/
def scheduleEntry (s : State) : Nat :=
  (s.plan.wait[s.seq.bitPlane]?).getD (waitCycles s.cfg s.seq.bitPlane)

/-- The blank reload value `wait[bit_plane] - 1` (30 R96, 90 C10). -/
def blankReload (s : State) : Nat :=
  scheduleEntry s - 1

/-- The plane reload value `P - 1` (30 R97). -/
def planeReload (s : State) : Nat :=
  s.cfg.planeCount - 1

/-- The bank successor `(bank + 1) mod B` (30 R97). -/
def bankSuccessor (s : State) : Nat :=
  (s.seq.bank + 1) % s.cfg.bankCount

/-- The pixel successor `pixel_index + 1` (30 R97). -/
def pixelSuccessor (s : State) : Nat :=
  s.seq.pixelIndex + 1

/-- The row addressed for sub-panel k: `bank | (B * k)` (30 R98, 41 R131; the row offset is B, 00 R9). -/
def rowIndex (s : State) (k : SubPanel) : Nat :=
  s.seq.bank ||| s.cfg.bankCount * k.index

/-- `GammaRead(i) = GT[i]`, total because an index has 8 bits (20 R71, R72). -/
def gammaRead (s : State) (i : Byte) : Nat :=
  s.gammaTable[i.toNat]'i.isLt

/-- Bit `bit_plane` of a gamma value, bit 0 least significant (30 R99, 41 R133). -/
def planeBit (s : State) (gv : Nat) : Bool :=
  gv.testBit s.seq.bitPlane

end Sys2Proof.Machine
end

