-- ==== Sys2Proof/Machine/Ops.lean ====
section
/-! DEFINITION. The named operations over the state: one setter for each part a meaning writes, the colour-source
queries (20_memory.md R75), reset as the one trap-like event (60_exceptions.md R226), and the registers that make a
given selector word. -/

namespace Sys2Proof.Machine

/-- Run a second operation from the next state of the first; a fault or a refusal ends both. -/
def andThen (o : Host.Outcome State Fault Refusal) (f : State → Host.Outcome State Fault Refusal) :
    Host.Outcome State Fault Refusal :=
  match o with
  | .next s => f s
  | .fault r => .fault r
  | .refused r => .refused r

/-- Write the sequencer registers, all at once on the clock edge (20 R81, R83). -/
def State.withSeq (s : State) (r : SeqRegs) : State :=
  { s with seq := r }

/-- Write the output registers, all at once on the clock edge. -/
def State.withOut (s : State) (o : OutRegs) : State :=
  { s with out := o }

/-- Drive the colour source's answers. -/
def State.withAnswers (s : State) (a : Lanes Byte) : State :=
  { s with sig := { s.sig with answers := a } }

/-- Drive the gamma values. -/
def State.withGv (s : State) (g : Lanes Nat) : State :=
  { s with sig := { s.sig with gv := g } }

/-- Drive the lane decisions. -/
def State.withLane (s : State) (l : Lanes Bool) : State :=
  { s with sig := { s.sig with lane := l } }

/-- Take the configuration. -/
def State.withCfg (s : State) (c : Config) : State :=
  { s with cfg := c }

/-- Take the supplied request. -/
def State.withRequest (s : State) (r : Request) : State :=
  { s with request := r }

/-- Write the gamma table (only at construction, 40 R114). -/
def State.withGammaTable (s : State) (t : Vector Nat 256) : State :=
  { s with gammaTable := t }

/-- Write the planner's values (only at construction, 42 R158). -/
def State.withPlan (s : State) (p : Plan) : State :=
  { s with plan := p }

/-- Drive the reset input. -/
def State.withResetLine (s : State) (asserted : Bool) : State :=
  { s with resetLine := asserted }

/-- Connect a colour source. -/
def State.withSource (s : State) (src : ColourSource) : State :=
  { s with source := src }

/-- The host's actions still to come. -/
def State.withHost (s : State) (h : List HostAction) : State :=
  { s with host := h }

/-- The answer of a colour source to `Sample(x, y)` for sub-panel k, with the number of a free draw for the case
that the source leaves it open (20 R74, R77). -/
def sourceAnswer (src : ColourSource) (k : SubPanel) (x y draw : Nat) : Rgb Byte :=
  match src with
  | .draw => Config.sampleDraw draw
  | .image rows => ((rows[y]?.getD [])[x]?).getD (Config.sampleDraw draw)
  | .sequence [] => Config.sampleDraw draw
  | .sequence (a :: _) => a.sub k

/-- A colour source after the two queries of a cycle: a sequence moves on by one cycle. -/
def sourceNext (src : ColourSource) : ColourSource :=
  match src with
  | .draw => .draw
  | .image rows => .image rows
  | .sequence answers => .sequence answers.tail

/-- `answers_n[k] = Sample(pixel_index, bank | B*k)`: the answer to the query of sub-panel k in this cycle
(20 R75, 41 R132). The two queries of a cycle are draws number `draws` and `draws + 1`. -/
def answerOf (s : State) (k : SubPanel) : Rgb Byte :=
  sourceAnswer s.source k s.seq.pixelIndex (rowIndex s k) (s.draws + k.index)

/-- Both answers of this cycle, one triple for each sub-panel. -/
def answersOf (s : State) : Lanes Byte :=
  ⟨answerOf s .sub0, answerOf s .sub1⟩

/-- Issue the two queries of the cycle (20 R75): the answers are on the signals, the source has moved on, and the
next draws are fresh. -/
def State.sample (s : State) : State :=
  { s with
    sig := { s.sig with answers := answersOf s }
    source := sourceNext s.source
    draws := s.draws + 2 }

/-- Every register to its reset value (10 R46). The configuration and what was derived from it are kept (10 R43),
and so is the number of draws, since the answers after a reset are as free as those before it. -/
def State.resetRegisters (s : State) : State :=
  { s with seq := resetSeqRegs s.cfg, out := resetOutRegs }

/-- Asserting reset, the core's only trap-like event (60 R226, 70 R250, R251; decisions D2 and D33 of the spec,
log 11): at once, without a clock edge, every register takes its reset value; nothing is saved. Asserting it again
changes nothing (R227). -/
def State.assertReset (s : State) : State :=
  s.resetRegisters.withResetLine true

/-- Releasing reset: the state is now that of cycle 0 (60 R227, 70 R250). There is nothing to restore. -/
def State.releaseReset (s : State) : State :=
  s.withResetLine false

/-- A counter changed only as far as it must, to be zero or not as wanted. -/
def counterFor (isZero : Bool) (v : Nat) : Nat :=
  match isZero, v with
  | true, _ => 0
  | false, 0 => 1
  | false, n + 1 => n + 1

/-- A pixel index changed only as far as it must, to be the last one or not as wanted. -/
def pixelFor (isLast : Bool) (last v : Nat) : Nat :=
  match isLast with
  | true => last
  | false => if v = last then (if last = 0 then 1 else 0) else v

/-- The sequencer registers changed only as far as they must, so that the selector word is w (log 21). -/
def seqForSelector (c : Config) (r : SeqRegs) (w : Word) : SeqRegs :=
  { r with
    state := stateOfCode (w.extractLsb' 5 3)
    delayCounter := counterFor (w.getLsbD 4) r.delayCounter
    sclk := w.getLsbD 3
    pixelIndex := pixelFor (w.getLsbD 2) (c.chainLength - 1) r.pixelIndex
    blankCounter := counterFor (w.getLsbD 1) r.blankCounter
    bitPlane := counterFor (w.getLsbD 0) r.bitPlane }

/-- The state in which the next step is a clock edge whose selector word is w: reset released, no host action
before the edge, and the registers of `seqForSelector`. -/
def State.withSelector (s : State) (w : Word) : State :=
  { s with seq := seqForSelector s.cfg s.seq w, resetLine := false, host := [] }

end Sys2Proof.Machine
end

