-- ==== Sys2Proof/Machine/Construction.lean ====
section
/-! DEFINITION. The functions that run once, at construction: admission of the supplied configuration
(60_exceptions.md R224), CONFIG_VALIDATE (R222), GAMMA_BUILD (40_gamma.md R110) and the planner (42_timing_planner.md
R151 to R155). -/

namespace Sys2Proof.Machine

/-- A rational that is a natural number, as that number. -/
def natField (f : ConfigField) (q : Rat) : Except ConfigField Nat :=
  if q.den = 1 ∧ 0 ≤ q.num then .ok q.num.toNat else .error f

/-- A rational that is a positive integer, as that number. -/
def posNatField (f : ConfigField) (q : Rat) : Except ConfigField Nat :=
  if q.den = 1 ∧ 0 < q.num then .ok q.num.toNat else .error f

/-- `src_bits` is fixed at 8 (40 R118). -/
def srcBitsField (q : Rat) : Except ConfigField Unit :=
  if q = 8 then .ok () else .error .srcBits

/-- F: negative is refused, 0 is left to the check T_FREQ (60 R222, R224; log 16). -/
def clkFreqField (q : Rat) : Except ConfigField Rat :=
  if 0 ≤ q then .ok q else .error .clkFreq

/-- FLOOR: absent, or a positive rational (00 R8, 60 R224). -/
def refreshFloorField (q : Option Rat) : Except ConfigField (Option Rat) :=
  match q with
  | none => .ok none
  | some f => if 0 < f then .ok (some f) else .error .refreshFloor

/-- BCW: a natural number, or absent with the default `P - 1 + T` (00 R8 row 11; log 16). -/
def blankWidthField (planes timeslot : Nat) (q : Option Rat) : Except ConfigField Nat :=
  match q with
  | none => .ok (planes - 1 + timeslot)
  | some w => natField .blankCounterWidth w

/-- Admission (60 R224): the configuration with its fields' types, or the first field, in the order of 00 R8, that
the spec gives no meaning. -/
def admitRequest (r : Request) : Except ConfigField Config := do
  let n ← natField .chainLength r.chainLength
  let b ← natField .bankCount r.bankCount
  let p ← natField .planeCount r.planeCount
  let d ← natField .clkDelay r.clkDelay
  let t ← natField .shortestTimeslot r.shortestTimeslot
  let gam ← posNatField .gamma r.gamma
  let _ ← srcBitsField r.srcBits
  let g ← posNatField .dstBits r.dstBits
  let f ← clkFreqField r.clkFreq
  let fl ← refreshFloorField r.refreshFloor
  let w ← blankWidthField p t r.blankCounterWidth
  return {
    chainLength := n
    bankCount := b
    planeCount := p
    clkDelay := d
    shortestTimeslot := t
    gamma := gam
    dstBits := g
    clkFreq := f
    refreshFloor := fl
    blankCounterWidth := w }

/-- B is a power of two (60 R222 check 3). -/
def isPowerOfTwo (b : Nat) : Bool :=
  2 ^ b.log2 == b

/-- FLOOR is absent or not above the planner's refresh rate (60 R222 check 8; decision D23 of the spec, log 15). -/
def refreshFloorMet (c : Config) : Bool :=
  match c.refreshFloor with
  | none => true
  | some f => decide (f ≤ refreshRateOf c)

/-- The condition under which a check passes (60 R222). -/
def checkPasses (c : Config) : CheckId → Bool
  | .gChain => decide (1 ≤ c.chainLength)
  | .gBankZero => decide (1 ≤ c.bankCount)
  | .gBankPow2 => isPowerOfTwo c.bankCount
  | .tPlanes => decide (1 ≤ c.planeCount)
  | .tDelay => decide (1 ≤ c.clkDelay)
  | .tFreq => decide (0 < c.clkFreq)
  | .tBlankWidth => decide (2 ^ (c.planeCount - 1 + c.shortestTimeslot) - 1 ≤ 2 ^ c.blankCounterWidth - 1)
  | .tRefresh => refreshFloorMet c

/-- The error code a failing check raises (60 R222; decision D19 of the spec, log 15). -/
def checkCode : CheckId → ErrorCode
  | .gChain | .gBankZero | .gBankPow2 => .invalidGeometry
  | .tPlanes | .tDelay | .tFreq | .tBlankWidth | .tRefresh => .invalidTimingBudget

/-- The checks in the order of 60 R222. -/
def checkOrder : List CheckId :=
  [.gChain, .gBankZero, .gBankPow2, .tPlanes, .tDelay, .tFreq, .tBlankWidth, .tRefresh]

/-- The first check, in that order, that fails. -/
def firstFailure (c : Config) : Option CheckId :=
  checkOrder.find? fun k => !checkPasses c k

/-- CONFIG_VALIDATE (60 R222, R224): the request is refused, or rejected with the first failing check, or it is the
core's configuration. -/
def execConfigValidate (s : State) : Host.Outcome State Fault Refusal :=
  match admitRequest s.request with
  | .error f => .refused (.unmodelled f)
  | .ok c =>
    match firstFailure c with
    | some k => .fault (.configError (checkCode k) k)
    | none => .next (s.withCfg c)

/-- GAMMA_BUILD (40 R110, R111). -/
def execGammaBuild (s : State) : Host.Outcome State Fault Refusal :=
  .next (s.withGammaTable (gammaTableOf s.cfg))

/-- PLAN_WAIT (42 R151). -/
def execPlanWait (s : State) : Host.Outcome State Fault Refusal :=
  .next (s.withPlan { s.plan with wait := waitSchedule s.cfg })

/-- PLAN_IO_FREQ (42 R153). -/
def execPlanIoFreq (s : State) : Host.Outcome State Fault Refusal :=
  .next (s.withPlan { s.plan with ioFreq := ioFreqOf s.cfg })

/-- PLAN_TRANSFER_TIME (42 R154). -/
def execPlanTransferTime (s : State) : Host.Outcome State Fault Refusal :=
  .next (s.withPlan { s.plan with transferTime := transferTimeOf s.cfg })

/-- PLAN_FRAME_TIME (42 R155). -/
def execPlanFrameTime (s : State) : Host.Outcome State Fault Refusal :=
  .next (s.withPlan { s.plan with frameTime := frameTimeOf s.cfg })

end Sys2Proof.Machine
end

