-- ==== Sys2Proof/Machine/Pipeline.lean ====
section
/-! DEFINITION. The combinational operations of every cycle (30_encoding.md R94): GAMMA_LOOKUP, LANE_BIT and the
output register stage. GAMMA_LOOKUP and LANE_BIT write no register; their results are signals (log 3). -/

namespace Sys2Proof.Machine

/-- GAMMA_LOOKUP (40 R116), all six lanes: `gv[k][c] = GammaRead(answers_n[k].c)`. -/
def execGammaLookup (s : State) : Host.Outcome State Fault Refusal :=
  .next (s.withGv (s.sig.answers.map (gammaRead s)))

/-- LANE_BIT (41 R133), all six lanes: `lane_c[k][c] = gv[k][c][bit_plane]`. -/
def execLaneBit (s : State) : Host.Outcome State Fault Refusal :=
  .next (s.withLane (s.sig.gv.map (planeBit s)))

/-- The strobe decision: 1 in Latch only (43 R187). -/
def stbDecision (s : State) : Bool :=
  s.seq.state == .latch

/-- The enable decision, active low: 0 in Blank only (43 R187, 90 C14). -/
def oeDecision (s : State) : Bool :=
  !(s.seq.state == .blank)

/-- The combinational decisions of the cycle (43 R187). Each is made from the CURRENT registers (43 R188; decisions
D15 and D35 of the spec, log 17). -/
def decisions (s : State) : OutRegs where
  clk := s.seq.sclk
  stb := stbDecision s
  oe := oeDecision s
  bank := s.seq.bank
  lane := s.sig.lane

/-- OUTPUT_REGISTER (43 R190): every output register takes the decision of this cycle. -/
def execOutputRegister (s : State) : Host.Outcome State Fault Refusal :=
  .next (s.withOut (decisions s))

end Sys2Proof.Machine
end

