-- ==== Sys2Proof/Machine/Sequencer.lean ====
section
/-! DEFINITION. The step arms of the ScanSequencer (43_sequencer.md R171 to R185). Every right-hand side reads the
registers of the current cycle, and a register an arm does not write keeps its value (00 R16, 43 R170). The reloads
of the delay counter and of the blank counter are decisions D7, D8 and D9 of the spec (log 12). An arm is run by a
step only in the states that select it; what the subtraction gives at 0 is never used (log 7). -/

namespace Sys2Proof.Machine

/-- IDLE (43 R171). -/
def execIdle (s : State) : Host.Outcome State Fault Refusal :=
  .next (s.withSeq { s.seq with
    pixelIndex := 0
    delayCounter := delayReload s
    sclk := false
    state := .shiftOut })

/-- SHIFT_WAIT (43 R172). -/
def execShiftWait (s : State) : Host.Outcome State Fault Refusal :=
  .next (s.withSeq { s.seq with delayCounter := s.seq.delayCounter - 1 })

/-- SHIFT_RISE (43 R173). -/
def execShiftRise (s : State) : Host.Outcome State Fault Refusal :=
  .next (s.withSeq { s.seq with
    delayCounter := delayReload s
    sclk := true })

/-- SHIFT_FALL (43 R174). -/
def execShiftFall (s : State) : Host.Outcome State Fault Refusal :=
  .next (s.withSeq { s.seq with
    delayCounter := delayReload s
    sclk := false
    pixelIndex := pixelSuccessor s })

/-- SHIFT_LAST (43 R175). -/
def execShiftLast (s : State) : Host.Outcome State Fault Refusal :=
  .next (s.withSeq { s.seq with
    delayCounter := delayReload s
    sclk := false
    pixelIndex := 0
    state := .latchPre })

/-- LATCHPRE_WAIT (43 R176). -/
def execLatchPreWait (s : State) : Host.Outcome State Fault Refusal :=
  .next (s.withSeq { s.seq with delayCounter := s.seq.delayCounter - 1 })

/-- LATCHPRE_END (43 R177). -/
def execLatchPreEnd (s : State) : Host.Outcome State Fault Refusal :=
  .next (s.withSeq { s.seq with
    delayCounter := delayReload s
    state := .latch })

/-- LATCH_WAIT (43 R178). -/
def execLatchWait (s : State) : Host.Outcome State Fault Refusal :=
  .next (s.withSeq { s.seq with delayCounter := s.seq.delayCounter - 1 })

/-- LATCH_END (43 R179). -/
def execLatchEnd (s : State) : Host.Outcome State Fault Refusal :=
  .next (s.withSeq { s.seq with
    delayCounter := delayReload s
    state := .latchPost })

/-- LATCHPOST_WAIT (43 R180). -/
def execLatchPostWait (s : State) : Host.Outcome State Fault Refusal :=
  .next (s.withSeq { s.seq with delayCounter := s.seq.delayCounter - 1 })

/-- LATCHPOST_END (43 R181): the blanking window is loaded. -/
def execLatchPostEnd (s : State) : Host.Outcome State Fault Refusal :=
  .next (s.withSeq { s.seq with
    blankCounter := blankReload s
    delayCounter := delayReload s
    state := .blank })

/-- BLANK_WAIT (43 R182). -/
def execBlankWait (s : State) : Host.Outcome State Fault Refusal :=
  .next (s.withSeq { s.seq with blankCounter := s.seq.blankCounter - 1 })

/-- BLANK_END_PLANE (43 R183). -/
def execBlankEndPlane (s : State) : Host.Outcome State Fault Refusal :=
  .next (s.withSeq { s.seq with
    bitPlane := s.seq.bitPlane - 1
    state := .idle })

/-- BLANK_END_BANK (43 R184). -/
def execBlankEndBank (s : State) : Host.Outcome State Fault Refusal :=
  .next (s.withSeq { s.seq with
    bank := bankSuccessor s
    bitPlane := planeReload s
    state := .idle })

/-- RESERVED_STATE (43 R185): "a refusal (`UnreachableState`) and no next state" (log 8). -/
def execReservedState (_s : State) : Host.Outcome State Fault Refusal :=
  .refused .unreachableState

end Sys2Proof.Machine
end

