-- ==== Sys2Proof/Machine/Dispatch.lean ====
section
/-! DEFINITION. One arm per row of opcode_table.json. -/

namespace Sys2Proof.Machine

def exec (i : Instr) (s : State) : Host.Outcome State Fault Refusal :=
  match i with
  | .idle => Sys2Proof.Machine.execIdle s
  | .shiftWait => Sys2Proof.Machine.execShiftWait s
  | .shiftRise => Sys2Proof.Machine.execShiftRise s
  | .shiftFall => Sys2Proof.Machine.execShiftFall s
  | .shiftLast => Sys2Proof.Machine.execShiftLast s
  | .latchPreWait => Sys2Proof.Machine.execLatchPreWait s
  | .latchPreEnd => Sys2Proof.Machine.execLatchPreEnd s
  | .latchWait => Sys2Proof.Machine.execLatchWait s
  | .latchEnd => Sys2Proof.Machine.execLatchEnd s
  | .latchPostWait => Sys2Proof.Machine.execLatchPostWait s
  | .latchPostEnd => Sys2Proof.Machine.execLatchPostEnd s
  | .blankWait => Sys2Proof.Machine.execBlankWait s
  | .blankEndPlane => Sys2Proof.Machine.execBlankEndPlane s
  | .blankEndBank => Sys2Proof.Machine.execBlankEndBank s
  | .reservedState => Sys2Proof.Machine.execReservedState s
  | .gammaLookup => Sys2Proof.Machine.execGammaLookup s
  | .laneBit => Sys2Proof.Machine.execLaneBit s
  | .outputRegister => Sys2Proof.Machine.execOutputRegister s
  | .gammaBuild => Sys2Proof.Machine.execGammaBuild s
  | .planWait => Sys2Proof.Machine.execPlanWait s
  | .planIoFreq => Sys2Proof.Machine.execPlanIoFreq s
  | .planTransferTime => Sys2Proof.Machine.execPlanTransferTime s
  | .planFrameTime => Sys2Proof.Machine.execPlanFrameTime s
  | .configValidate => Sys2Proof.Machine.execConfigValidate s

end Sys2Proof.Machine
end

