-- ==== Sys2Proof/Machine/Cycle.lean ====
section
/-! DEFINITION. What one step does: a clock edge runs the three combinational rows and the one arm the selector
word selects (00_scope.md R16, 30_encoding.md R94, 43_sequencer.md R170); a host action is taken between clock edges
(70_reset_and_hazards.md R254, R262). -/

namespace Sys2Proof.Machine

/-- The combinational work of a cycle: the two queries, then GAMMA_LOOKUP, LANE_BIT and OUTPUT_REGISTER, which act
in every cycle (30 R94). None of them reads what a step arm writes and none writes what a step arm reads, so running
them before the arm is the same as running them beside it (20 R83). -/
def combinational (s : State) : Host.Outcome State Fault Refusal :=
  andThen (exec .gammaLookup s.sample) fun t =>
  andThen (exec .laneBit t) (exec .outputRegister)

/-- One clock edge. While reset is asserted it has no effect but that every register holds its reset value (60 R228,
70 R250). Otherwise the combinational rows act, and with them the arm the selector word of the current registers
selects (43 R170). -/
def clockEdge (s : State) : Host.Outcome State Fault Refusal :=
  match s.resetLine with
  | true => .next s.resetRegisters
  | false =>
    match decode (selectorWord s) with
    | none => .refused .undecodable
    | some i => andThen (combinational s) (exec i)

/-- Constructing the core (70 R254 steps 1 and 2, 60 R222, R223): take the request, validate it, build GT and
`wait[]`, derive the exposed values. A rejected or refused request ends there. The registers then hold the reset
values of the new configuration, since a construction is made under reset (70 R255). -/
def construct (r : Request) (s : State) : Host.Outcome State Fault Refusal :=
  andThen (exec .configValidate (s.withRequest r)) fun s1 =>
  andThen (exec .gammaBuild s1) fun s2 =>
  andThen (exec .planWait s2) fun s3 =>
  andThen (exec .planIoFreq s3) fun s4 =>
  andThen (exec .planTransferTime s4) fun s5 =>
  andThen (exec .planFrameTime s5) fun s6 =>
  .next s6.resetRegisters

/-- One action of the host (70 R254, R262; log 5, 23). -/
def hostAct (a : HostAction) (s : State) : Host.Outcome State Fault Refusal :=
  match a with
  | .construct r =>
    match s.resetLine with
    | true => construct r s
    | false => .refused .reconfigureWithoutReset
  | .connect src => .next (s.withSource src)
  | .assertReset => .next s.assertReset
  | .releaseReset => .next s.releaseReset
  | .clock => clockEdge s

/-- The next thing that happens to the core: the first of the host's actions still to come, or, with none left, a
clock edge (log 5). -/
def nextEvent (s : State) : Host.Outcome State Fault Refusal :=
  match s.host with
  | [] => clockEdge s
  | a :: rest => hostAct a (s.withHost rest)

/-- The state whose next step is a clock edge with the selector word of the instruction with bits w (log 21). -/
def placeWord (s : State) (_nbits w : Nat) : State :=
  s.withSelector (BitVec.ofNat 8 w)

end Sys2Proof.Machine
end

