-- ==== Sys2Proof/Machine/Step.lean ====
section
/-! DEFINITION. The step of the machine, and the state in which its next step runs a given instruction. -/

namespace Sys2Proof.Machine

/-- One step: a clock edge, or the next action of the host (`nextEvent`). -/
def step (s : State) : Host.Outcome State Fault Refusal :=
  nextEvent s

/-- `s` with the selector word of the instruction with bits w as the word of its next step (log 21). -/
def State.withFetchWord (s : State) (nbits w : Nat) : State :=
  placeWord s nbits w

end Sys2Proof.Machine
end

