-- ==== Sys2Proof/Safety.lean ====
section
/-! DEFINITION. What statements about the machine are made of: valid configurations, the invariants of
10_state.md R47 and R48, running states, and the decisions of a cycle written straight from the spec. -/

namespace Sys2Proof.Machine

/-- What the eight checks of 60 R222 and the types of 00 R8 ask of a configuration. -/
def ValidConfig (c : Config) : Prop :=
  1 ≤ c.chainLength ∧ (∃ k, c.bankCount = 2 ^ k) ∧ 1 ≤ c.planeCount ∧ 1 ≤ c.clkDelay ∧ 0 < c.clkFreq ∧
  c.planeCount - 1 + c.shortestTimeslot ≤ c.blankCounterWidth ∧
  (∀ f, c.refreshFloor = some f → 0 < f ∧ f ≤ refreshRateOf c) ∧ 1 ≤ c.gamma ∧ 1 ≤ c.dstBits

/-- The constants of the core are those construction derives from its configuration (10 R44, 60 R223). -/
def Built (s : State) : Prop :=
  s.gammaTable = gammaTableOf s.cfg ∧ s.plan = planOf s.cfg

/-- The range bounds of 10 R47. -/
def InRange (s : State) : Prop :=
  s.seq.pixelIndex < s.cfg.chainLength ∧ s.seq.bank < s.cfg.bankCount ∧ s.seq.bitPlane < s.cfg.planeCount ∧
  s.seq.delayCounter < s.cfg.clkDelay ∧ s.seq.blankCounter < waitCycles s.cfg (s.cfg.planeCount - 1)

/-- The state invariants of 10 R48, with 30 R91: no reserved code, the shift clock low and the pixel index 0 outside
ShiftOut, the blank counter below the window of the current plane. -/
def InPhase (s : State) : Prop :=
  s.seq.state.isReserved = false ∧ (s.seq.state ≠ .shiftOut → s.seq.sclk = false ∧ s.seq.pixelIndex = 0) ∧
  (s.seq.state = .blank → s.seq.blankCounter < waitCycles s.cfg s.seq.bitPlane)

/-- The invariant of the machine: a constructed core with a valid configuration, whose registers and bank pins are in
their ranges. -/
def Inv (s : State) : Prop :=
  ValidConfig s.cfg ∧ Built s ∧ InRange s ∧ InPhase s ∧ s.out.bank < s.cfg.bankCount

/-- The clock runs: reset is released and the host does nothing else (70 R262). -/
def Running (s : State) : Prop :=
  s.resetLine = false ∧ s.host = []

/-- The lane decision `GT[answers_n[k].c][bit_plane]` of lane [k][c] (41 R133). -/
def laneDecision (s : State) (k : SubPanel) (c : Colour) : Bool :=
  (gammaRead s ((answersOf s).get k c)).testBit s.seq.bitPlane

/-- All six lane decisions. -/
def laneDecisions (s : State) : Lanes Bool :=
  (answersOf s).map fun v => (gammaRead s v).testBit s.seq.bitPlane

/-- `Out(S_n, answers_n)` (00 R16, 43 R187, R190): the pins of the next cycle. -/
def nextPins (s : State) : OutRegs where
  clk := s.seq.sclk
  stb := decide (s.seq.state = .latch)
  oe := decide (s.seq.state ≠ .blank)
  bank := s.seq.bank
  lane := laneDecisions s

/-- The signals after the cycle that starts in s. -/
def nextSignals (s : State) : Signals where
  answers := answersOf s
  gv := (answersOf s).map (gammaRead s)
  lane := laneDecisions s

/-- What a clock edge does beside the step arm: the pins, the signals and the colour source of the cycle that started
in s, on the state t the arm makes (00 R16). -/
def besideArm (s t : State) : State :=
  { t with
    out := nextPins s
    sig := nextSignals s
    source := sourceNext s.source
    draws := s.draws + 2 }

/-- The sequencer registers after a step that answers a next state. -/
def seqOf (o : Host.Outcome State Fault Refusal) : Option SeqRegs :=
  match o with
  | .next s => some s.seq
  | .fault _ => none
  | .refused _ => none

/-- The pins after a step that answers a next state. -/
def pinsOf (o : Host.Outcome State Fault Refusal) : Option OutRegs :=
  match o with
  | .next s => some s.out
  | .fault _ => none
  | .refused _ => none

/-- n steps of the machine (00 R16, the RUN of 30 R104), up to the first fault or refusal. -/
def cycles : Nat → State → Host.Outcome State Fault Refusal
  | 0, s => .next s
  | n + 1, s => andThen (step s) (cycles n)

/-- The selection of a step arm (30 R100): exactly the words with this match under this mask decode to it, and
exactly the states that meet `cond` have such a word. -/
def SelectedWhen (i : Instr) (pattern mask : Word) (cond : State → Prop) : Prop :=
  (∀ w, decode w = some i ↔ w &&& mask = pattern) ∧ ∀ s, decode (selectorWord s) = some i ↔ cond s

/-- In every state that meets `cond` the instruction completes, writes the sequencer registers `f` gives and nothing
else; and a clock edge of a running machine does that together with the output stage of the cycle. -/
def ArmWrites (i : Instr) (cond : State → Prop) (f : State → SeqRegs) : Prop :=
  ∀ s, cond s →
    exec i s = .next { s with seq := f s } ∧ (Running s → step s = .next (besideArm s { s with seq := f s }))

/-- The reference core with these sequencer registers, for the examples of the rules. -/
def refState (r : SeqRegs) : State :=
  { State.reset with seq := r }

/-- The sequencer registers n cycles (n at least 1) into the plane period that starts from the Idle registers r, for
n up to the last Blank cycle (43 R192, R194). -/
def planeTimeline (c : Config) (r : SeqRegs) (n : Nat) : SeqRegs :=
  let d := c.clkDelay
  let shift := 2 * c.chainLength * d
  if n ≤ shift then
    { r with
      state := .shiftOut
      pixelIndex := (n - 1) / (2 * d)
      delayCounter := d - 1 - (n - 1) % d
      sclk := decide ((n - 1) / d % 2 = 1) }
  else if n ≤ shift + 3 * d then
    { r with
      state := if n ≤ shift + d then .latchPre else if n ≤ shift + 2 * d then .latch else .latchPost
      pixelIndex := 0
      delayCounter := d - 1 - (n - 1) % d
      sclk := false }
  else
    { r with
      state := .blank
      pixelIndex := 0
      delayCounter := d - 1
      sclk := false
      blankCounter := waitCycles c r.bitPlane - (n - (shift + 3 * d)) }

/-- The sequencer registers at the Idle after the plane period of the Idle registers r (43 R183, R184, R197). -/
def nextPlaneRegs (c : Config) (r : SeqRegs) : SeqRegs where
  state := .idle
  pixelIndex := 0
  bank := if r.bitPlane = 0 then (r.bank + 1) % c.bankCount else r.bank
  bitPlane := if r.bitPlane = 0 then c.planeCount - 1 else r.bitPlane - 1
  delayCounter := c.clkDelay - 1
  blankCounter := 0
  sclk := false

/-- The request that asks for the configuration c, field by field. -/
def requestOf (c : Config) : Request where
  chainLength := c.chainLength
  bankCount := c.bankCount
  planeCount := c.planeCount
  clkDelay := c.clkDelay
  shortestTimeslot := c.shortestTimeslot
  gamma := c.gamma
  srcBits := 8
  dstBits := c.dstBits
  clkFreq := c.clkFreq
  refreshFloor := c.refreshFloor
  blankCounterWidth := some (c.blankCounterWidth : Rat)

/-- A rational that is no natural number (60 R224). -/
def NotNatural (q : Rat) : Prop :=
  ∀ n : Nat, q ≠ n

/-- The core that construction under reset makes of the configuration c (60 R223, 70 R254, R255). -/
def constructed (s : State) (r : Request) (c : Config) : State :=
  { s with
    request := r
    cfg := c
    gammaTable := gammaTableOf c
    plan := planOf c
    seq := resetSeqRegs c
    out := resetOutRegs }

end Sys2Proof.Machine
end

