-- ==== Sys2Proof/Certificates/Slice0/Obligations.lean ====
section
/-! DEFINITION. The statements about the machine, each from the rules of spec/ that its docstring names. The state
codes and the layout of the selector word (decisions D11, D12 of the spec, log 9) stand behind every statement that
speaks of a selector word. What a clock edge does beside the arm (`besideArm`) rests on a query in every cycle (decision
D14, log 18), on lanes and pins that sample the current registers (D15, D35, log 17) and on the model's own signals
field (log 3), in every statement that speaks of a step. -/

open Sys2Proof Sys2Proof.Machine

/-! ## Decoding and dispatch -/

/-- 30 R93: every selector word matches exactly one row of the map, and decodes to that row's instruction. The
layout is decision D12 (log 9). -/
def Obligations.EveryWordMatchesOneRow : Prop :=
  ∀ w : Word, ∃ row, armTable.filter (·.selects w) = [row] ∧ decode w = some row.instr

/-- Decoding inverts encoding, for every instruction a word can select and every value of the bits its row does not
test; encoding inverts decoding, for every word; and no word selects a `comb` or `config` row (30 R93, R94, R100;
layout: decision D12, log 9). -/
def Obligations.DecodeInvertsEncode : Prop :=
  (∀ (i : Instr) (fill : Word), i.wf = true → ∃ w, encode i fill = some w ∧ decode w = some i) ∧
  (∀ (w : Word) (i : Instr), decode w = some i → i.wf = true ∧ encode i w = some w) ∧
  (∀ (i : Instr) (w : Word), i.wf = false → encode i w = none ∧ decode w ≠ some i)

/-- Words of 95 section 2.5, written out bit by bit, decode to the arm the spec names (layout: decision D12,
log 9). -/
def Obligations.SpecSelectorWordsDecode : Prop :=
  decode 0b00011111 = some .idle ∧ decode 0b00101111 = some .shiftWait ∧ decode 0b00110111 = some .shiftRise ∧
  decode 0b00111011 = some .shiftFall ∧ decode 0b00111111 = some .shiftLast ∧
  decode 0b01001111 = some .latchPreWait ∧ decode 0b01011111 = some .latchPreEnd ∧
  decode 0b01100000 = some .latchWait ∧ decode 0b01111111 = some .latchEnd ∧
  decode 0b10000000 = some .latchPostWait ∧ decode 0b10011111 = some .latchPostEnd ∧
  decode 0b10111101 = some .blankWait ∧ decode 0b10111110 = some .blankEndPlane ∧
  decode 0b10111111 = some .blankEndBank ∧ decode 0b11011111 = some .reservedState

/-- 30 R90, R92 and 10 R42: the selector word of a state holds the state code in bits 7:5 and the five condition
bits below it; the eight codes are distinct (decisions D11 and D12, log 9). -/
def Obligations.SelectorWordLayout : Prop :=
  (∀ s : State,
    (selectorWord s).extractLsb' 5 3 = stateCode s.seq.state ∧
    ((selectorWord s).getLsbD 4 = true ↔ s.seq.delayCounter = 0) ∧
    ((selectorWord s).getLsbD 3 = true ↔ s.seq.sclk = true) ∧
    ((selectorWord s).getLsbD 2 = true ↔ s.seq.pixelIndex = s.cfg.chainLength - 1) ∧
    ((selectorWord s).getLsbD 1 = true ↔ s.seq.blankCounter = 0) ∧
    ((selectorWord s).getLsbD 0 = true ↔ s.seq.bitPlane = 0)) ∧
  (∀ q : SeqState, stateOfCode (stateCode q) = q) ∧
  stateCode .idle = 0b000 ∧ stateCode .shiftOut = 0b001 ∧ stateCode .latchPre = 0b010 ∧ stateCode .latch = 0b011 ∧
  stateCode .latchPost = 0b100 ∧ stateCode .blank = 0b101

/-- The model's own `withFetchWord` (log 21): the state it gives is running, its selector word is w, and its step
runs the instruction w decodes to. -/
def Obligations.PlacedWordRuns : Prop :=
  ∀ (s : State) (w : Word), Running (s.withFetchWord 8 w.toNat) ∧ selectorWord (s.withFetchWord 8 w.toNat) = w ∧
    ∃ i, decodeTableWord 8 w.toNat = some i ∧
      step (s.withFetchWord 8 w.toNat) =
        andThen (exec i (s.withFetchWord 8 w.toNat)) fun t => .next (besideArm (s.withFetchWord 8 w.toNat) t)

/-- 43 R170 and 00 R16: a clock edge of a running machine applies the arm that the selector word matches, and in the
same cycle the output stage samples the current values (decisions D14, D15, D35 of the spec and log 3, 17, 18 for what
is beside the arm). -/
def Obligations.StepRunsDecodedArm : Prop :=
  ∀ (s : State) (i : Instr), Running s → decode (selectorWord s) = some i →
    step s = andThen (exec i s) fun t => .next (besideArm s t)

/-! ## The step arms -/

/-- 43 R171 IDLE. Encoding line: decision D12 (log 9). -/
def Obligations.IdleEntersShiftOut : Prop :=
  SelectedWhen .idle 0x00 0xE0 (fun s => s.seq.state = .idle) ∧
  ArmWrites .idle (fun s => s.seq.state = .idle) (fun s => { s.seq with
    pixelIndex := 0
    delayCounter := s.cfg.clkDelay - 1
    sclk := false
    state := .shiftOut }) ∧
  (∀ s, InPhase s → s.seq.state = .idle → s.seq.sclk = false ∧ s.seq.pixelIndex = 0) ∧
  (∀ s, s.cfg.clkDelay = 1 → s.seq.state = .idle → Running s → ∃ t, step s = .next t ∧ t.seq.delayCounter = 0) ∧
  seqOf (step (refState ⟨.idle, 0, 0, 11, 3, 0, false⟩)) = some ⟨.shiftOut, 0, 0, 11, 3, 0, false⟩

/-- 43 R172 SHIFT_WAIT. Encoding line: decision D12 (log 9). -/
def Obligations.ShiftWaitCountsDown : Prop :=
  SelectedWhen .shiftWait 0x20 0xF0 (fun s => s.seq.state = .shiftOut ∧ s.seq.delayCounter ≠ 0) ∧
  ArmWrites .shiftWait (fun s => s.seq.state = .shiftOut ∧ s.seq.delayCounter ≠ 0)
    (fun s => { s.seq with delayCounter := s.seq.delayCounter - 1 }) ∧
  (∀ s, InRange s → s.cfg.clkDelay = 1 → decode (selectorWord s) ≠ some .shiftWait) ∧
  seqOf (step (refState ⟨.shiftOut, 0, 0, 11, 3, 0, false⟩)) = some ⟨.shiftOut, 0, 0, 11, 2, 0, false⟩

/-- 43 R173 SHIFT_RISE. The reload is decision D7 of the spec (log 12), the encoding D12 (log 9). -/
def Obligations.ShiftRiseRaisesClock : Prop :=
  SelectedWhen .shiftRise 0x30 0xF8
    (fun s => s.seq.state = .shiftOut ∧ s.seq.delayCounter = 0 ∧ s.seq.sclk = false) ∧
  ArmWrites .shiftRise (fun s => s.seq.state = .shiftOut ∧ s.seq.delayCounter = 0 ∧ s.seq.sclk = false)
    (fun s => { s.seq with delayCounter := s.cfg.clkDelay - 1, sclk := true }) ∧
  seqOf (step (refState ⟨.shiftOut, 5, 0, 11, 0, 0, false⟩)) = some ⟨.shiftOut, 5, 0, 11, 3, 0, true⟩

/-- 43 R174 SHIFT_FALL. The reload is decision D7 of the spec (log 12), the encoding D12 (log 9). -/
def Obligations.ShiftFallAdvancesPixel : Prop :=
  SelectedWhen .shiftFall 0x38 0xFC
    (fun s => s.seq.state = .shiftOut ∧ s.seq.delayCounter = 0 ∧ s.seq.sclk = true ∧
      s.seq.pixelIndex ≠ s.cfg.chainLength - 1) ∧
  ArmWrites .shiftFall
    (fun s => s.seq.state = .shiftOut ∧ s.seq.delayCounter = 0 ∧ s.seq.sclk = true ∧
      s.seq.pixelIndex ≠ s.cfg.chainLength - 1)
    (fun s => { s.seq with
      delayCounter := s.cfg.clkDelay - 1
      sclk := false
      pixelIndex := s.seq.pixelIndex + 1 }) ∧
  (∀ s, InRange s → decode (selectorWord s) = some .shiftFall → s.seq.pixelIndex + 1 ≤ s.cfg.chainLength - 1) ∧
  (∀ s, InRange s → s.cfg.chainLength = 1 → decode (selectorWord s) ≠ some .shiftFall) ∧
  seqOf (step (refState ⟨.shiftOut, 5, 0, 11, 0, 0, true⟩)) = some ⟨.shiftOut, 6, 0, 11, 3, 0, false⟩

/-- 43 R175 SHIFT_LAST. The reload is decision D7 of the spec (log 12), the encoding D12 (log 9). -/
def Obligations.ShiftLastEntersLatchPre : Prop :=
  SelectedWhen .shiftLast 0x3C 0xFC
    (fun s => s.seq.state = .shiftOut ∧ s.seq.delayCounter = 0 ∧ s.seq.sclk = true ∧
      s.seq.pixelIndex = s.cfg.chainLength - 1) ∧
  ArmWrites .shiftLast
    (fun s => s.seq.state = .shiftOut ∧ s.seq.delayCounter = 0 ∧ s.seq.sclk = true ∧
      s.seq.pixelIndex = s.cfg.chainLength - 1)
    (fun s => { s.seq with
      delayCounter := s.cfg.clkDelay - 1
      sclk := false
      pixelIndex := 0
      state := .latchPre }) ∧
  seqOf (step (refState ⟨.shiftOut, 63, 0, 11, 0, 0, true⟩)) = some ⟨.latchPre, 0, 0, 11, 3, 0, false⟩

/-- 43 R176 LATCHPRE_WAIT. The guard timer is decision D8 of the spec (log 12), the encoding D12 (log 9). -/
def Obligations.LatchPreWaitCountsDown : Prop :=
  SelectedWhen .latchPreWait 0x40 0xF0 (fun s => s.seq.state = .latchPre ∧ s.seq.delayCounter ≠ 0) ∧
  ArmWrites .latchPreWait (fun s => s.seq.state = .latchPre ∧ s.seq.delayCounter ≠ 0)
    (fun s => { s.seq with delayCounter := s.seq.delayCounter - 1 }) ∧
  (∀ s, InRange s → s.cfg.clkDelay = 1 → decode (selectorWord s) ≠ some .latchPreWait) ∧
  seqOf (step (refState ⟨.latchPre, 0, 0, 11, 3, 0, false⟩)) = some ⟨.latchPre, 0, 0, 11, 2, 0, false⟩

/-- 43 R177 LATCHPRE_END. The guard timer is decision D8 of the spec (log 12), the encoding D12 (log 9). -/
def Obligations.LatchPreEndEntersLatch : Prop :=
  SelectedWhen .latchPreEnd 0x50 0xF0 (fun s => s.seq.state = .latchPre ∧ s.seq.delayCounter = 0) ∧
  ArmWrites .latchPreEnd (fun s => s.seq.state = .latchPre ∧ s.seq.delayCounter = 0)
    (fun s => { s.seq with delayCounter := s.cfg.clkDelay - 1, state := .latch }) ∧
  seqOf (step (refState ⟨.latchPre, 0, 0, 11, 0, 0, false⟩)) = some ⟨.latch, 0, 0, 11, 3, 0, false⟩

/-- 43 R178 LATCH_WAIT; the strobe decision is 1 in this cycle. The guard timer is decision D8 of the spec (log 12),
the encoding D12 (log 9). -/
def Obligations.LatchWaitCountsDown : Prop :=
  SelectedWhen .latchWait 0x60 0xF0 (fun s => s.seq.state = .latch ∧ s.seq.delayCounter ≠ 0) ∧
  ArmWrites .latchWait (fun s => s.seq.state = .latch ∧ s.seq.delayCounter ≠ 0)
    (fun s => { s.seq with delayCounter := s.seq.delayCounter - 1 }) ∧
  (∀ s t, Running s → decode (selectorWord s) = some .latchWait → step s = .next t → t.out.stb = true) ∧
  seqOf (step (refState ⟨.latch, 0, 0, 11, 2, 0, false⟩)) = some ⟨.latch, 0, 0, 11, 1, 0, false⟩

/-- 43 R179 LATCH_END; the strobe decision is still 1 in this cycle. The guard timer is decision D8 of the spec
(log 12), the encoding D12 (log 9). -/
def Obligations.LatchEndEntersLatchPost : Prop :=
  SelectedWhen .latchEnd 0x70 0xF0 (fun s => s.seq.state = .latch ∧ s.seq.delayCounter = 0) ∧
  ArmWrites .latchEnd (fun s => s.seq.state = .latch ∧ s.seq.delayCounter = 0)
    (fun s => { s.seq with delayCounter := s.cfg.clkDelay - 1, state := .latchPost }) ∧
  (∀ s t, Running s → decode (selectorWord s) = some .latchEnd → step s = .next t → t.out.stb = true) ∧
  seqOf (step (refState ⟨.latch, 0, 0, 11, 0, 0, false⟩)) = some ⟨.latchPost, 0, 0, 11, 3, 0, false⟩

/-- 43 R180 LATCHPOST_WAIT. The guard timer is decision D8 of the spec (log 12), the encoding D12 (log 9). -/
def Obligations.LatchPostWaitCountsDown : Prop :=
  SelectedWhen .latchPostWait 0x80 0xF0 (fun s => s.seq.state = .latchPost ∧ s.seq.delayCounter ≠ 0) ∧
  ArmWrites .latchPostWait (fun s => s.seq.state = .latchPost ∧ s.seq.delayCounter ≠ 0)
    (fun s => { s.seq with delayCounter := s.seq.delayCounter - 1 }) ∧
  (∀ s, InRange s → s.cfg.clkDelay = 1 → decode (selectorWord s) ≠ some .latchPostWait) ∧
  seqOf (step (refState ⟨.latchPost, 0, 0, 11, 1, 0, false⟩)) = some ⟨.latchPost, 0, 0, 11, 0, 0, false⟩

/-- 43 R181 LATCHPOST_END, in a core whose constants are those of its configuration. The guard timer and the load
value are decisions D8 and D9 of the spec (log 12), the encoding D12 (log 9). For a bit-plane outside the schedule,
which InRange excludes, the load is the model's choice (log 19). -/
def Obligations.LatchPostEndLoadsBlank : Prop :=
  SelectedWhen .latchPostEnd 0x90 0xF0 (fun s => s.seq.state = .latchPost ∧ s.seq.delayCounter = 0) ∧
  ArmWrites .latchPostEnd (fun s => s.seq.state = .latchPost ∧ s.seq.delayCounter = 0 ∧ Built s)
    (fun s => { s.seq with
      blankCounter := 2 ^ (s.seq.bitPlane + s.cfg.shortestTimeslot) - 1
      delayCounter := s.cfg.clkDelay - 1
      state := .blank }) ∧
  (∀ s p w, s.seq.bitPlane = p → s.plan.wait[p]? = some w →
    ∃ t, exec .latchPostEnd s = .next t ∧ t.seq.blankCounter = w - 1) ∧
  seqOf (step (refState ⟨.latchPost, 0, 0, 11, 0, 0, false⟩)) = some ⟨.blank, 0, 0, 11, 3, 16383, false⟩

/-- 43 R182 BLANK_WAIT; the enable decision is 0 (lit) in this cycle. Encoding line: decision D12 (log 9). -/
def Obligations.BlankWaitCountsDown : Prop :=
  SelectedWhen .blankWait 0xA0 0xE2 (fun s => s.seq.state = .blank ∧ s.seq.blankCounter ≠ 0) ∧
  ArmWrites .blankWait (fun s => s.seq.state = .blank ∧ s.seq.blankCounter ≠ 0)
    (fun s => { s.seq with blankCounter := s.seq.blankCounter - 1 }) ∧
  (∀ s t, Running s → decode (selectorWord s) = some .blankWait → step s = .next t → t.out.oe = false) ∧
  seqOf (step (refState ⟨.blank, 0, 0, 11, 3, 16383, false⟩)) = some ⟨.blank, 0, 0, 11, 3, 16382, false⟩

/-- 43 R183 BLANK_END_PLANE; the enable decision is still 0 in this cycle. Encoding line: decision D12 (log 9). -/
def Obligations.BlankEndPlaneStepsPlane : Prop :=
  SelectedWhen .blankEndPlane 0xA2 0xE3
    (fun s => s.seq.state = .blank ∧ s.seq.blankCounter = 0 ∧ s.seq.bitPlane ≠ 0) ∧
  ArmWrites .blankEndPlane (fun s => s.seq.state = .blank ∧ s.seq.blankCounter = 0 ∧ s.seq.bitPlane ≠ 0)
    (fun s => { s.seq with bitPlane := s.seq.bitPlane - 1, state := .idle }) ∧
  (∀ s t, Running s → decode (selectorWord s) = some .blankEndPlane → step s = .next t → t.out.oe = false) ∧
  (∀ s, InRange s → s.cfg.planeCount = 1 → decode (selectorWord s) ≠ some .blankEndPlane) ∧
  seqOf (step (refState ⟨.blank, 0, 3, 11, 3, 0, false⟩)) = some ⟨.idle, 0, 3, 10, 3, 0, false⟩

/-- 43 R184 BLANK_END_BANK. Encoding line: decision D12 (log 9). -/
def Obligations.BlankEndBankAdvancesBank : Prop :=
  SelectedWhen .blankEndBank 0xA3 0xE3
    (fun s => s.seq.state = .blank ∧ s.seq.blankCounter = 0 ∧ s.seq.bitPlane = 0) ∧
  ArmWrites .blankEndBank (fun s => s.seq.state = .blank ∧ s.seq.blankCounter = 0 ∧ s.seq.bitPlane = 0)
    (fun s => { s.seq with
      bank := (s.seq.bank + 1) % s.cfg.bankCount
      bitPlane := s.cfg.planeCount - 1
      state := .idle }) ∧
  (∀ s, 1 ≤ s.cfg.bankCount → s.seq.bank = s.cfg.bankCount - 1 →
    ∃ t, exec .blankEndBank s = .next t ∧ t.seq.bank = 0) ∧
  (∀ s, s.cfg.bankCount = 1 → ∃ t, exec .blankEndBank s = .next t ∧ t.seq.bank = 0) ∧
  (∀ s, InRange s → s.cfg.planeCount = 1 → s.seq.state = .blank → s.seq.blankCounter = 0 →
    decode (selectorWord s) = some .blankEndBank) ∧
  seqOf (step (refState ⟨.blank, 0, 15, 0, 3, 0, false⟩)) = some ⟨.idle, 0, 0, 11, 3, 0, false⟩

/-- 43 R185 and 30 R91: RESERVED_STATE is selected by the state codes 110 and 111 and is a refusal, with no next
state, alone and in a step. Decision D13 of the spec (log 8). -/
def Obligations.ReservedStateRefuses : Prop :=
  SelectedWhen .reservedState 0xC0 0xC0 (fun s => s.seq.state.isReserved = true) ∧
  (∀ s, exec .reservedState s = .refused .unreachableState) ∧
  (∀ s, Running s → s.seq.state.isReserved = true → step s = .refused .unreachableState)

/-! ## The combinational rows -/

/-- 40 R116 GAMMA_LOOKUP: each lane's gamma value is GT at the lane's answer, no register is written, and it acts in
every cycle; its corner cases and its example. That the state after a clock edge shows the answers and gamma values of
the cycle rests on the model's own signals field (log 3) and on a query in every cycle (decision D14 of the spec, log
18); the entry bound rests on the integer arithmetic of decision D21 (log 13). -/
def Obligations.GammaLookupReadsTable : Prop :=
  (∀ s, ∃ g : Lanes Nat, exec .gammaLookup s = .next { s with sig := { s.sig with gv := g } } ∧
    ∀ k c, g.get k c = s.gammaTable[(s.sig.answers.get k c).toNat]'(s.sig.answers.get k c).isLt) ∧
  (∀ s t, Running s → step s = .next t → ∀ k c, t.sig.answers.get k c = (answersOf s).get k c ∧
    t.sig.gv.get k c = s.gammaTable[((answersOf s).get k c).toNat]'((answersOf s).get k c).isLt) ∧
  (∀ s v, Built s → gammaRead s v ≤ 2 ^ s.cfg.dstBits - 1) ∧
  (∀ s, Built s → 1 ≤ s.cfg.gamma → gammaRead s 0 = 0 ∧ gammaRead s 255 = 2 ^ s.cfg.dstBits - 1) ∧
  (∀ v : Byte, v.toNat ≤ 48 →
    gammaRead State.reset v = 0 ∧ ∀ s, s.gammaTable = State.reset.gammaTable → planeBit s (gammaRead s v) = false) ∧
  gammaRead State.reset 128 = 130

/-- 41 R133 LANE_BIT: each lane decision is bit `bit_plane` of the lane's gamma value, no register is written, and it
acts in every cycle, where OUTPUT_REGISTER writes it to the lane; its corner cases and its example. What the state
after a clock edge shows rests on the model's own signals field (log 3), on a query in every cycle (decision D14 of the
spec, log 18) and on registered lanes that sample the current registers (decisions D15 and D35, log 17). A plane beyond
the gamma width is decision D29 (log 25). -/
def Obligations.LaneBitExtractsPlane : Prop :=
  (∀ s, ∃ l : Lanes Bool, exec .laneBit s = .next { s with sig := { s.sig with lane := l } } ∧
    ∀ k c, (l.get k c).toNat = (s.sig.gv.get k c >>> s.seq.bitPlane) % 2) ∧
  (∀ s t, Running s → step s = .next t → ∀ k c,
    t.sig.lane.get k c = (gammaRead s ((answersOf s).get k c)).testBit s.seq.bitPlane ∧
    t.out.lane.get k c = t.sig.lane.get k c) ∧
  (∀ s gv, s.seq.bitPlane = 0 → (planeBit s gv).toNat = gv % 2) ∧
  (∀ s gv, s.seq.bitPlane = 11 → gv < 4096 → (planeBit s gv = true ↔ 2048 ≤ gv)) ∧
  (∀ s v, Built s → s.cfg.dstBits ≤ s.seq.bitPlane → planeBit s (gammaRead s v) = false) ∧
  (∀ s, s.seq.bitPlane < s.cfg.dstBits → planeBit s (2 ^ s.cfg.dstBits - 1) = true) ∧
  (∀ s, planeBit s 0 = false) ∧
  (∀ s, gammaRead State.reset 128 = 130 ∧ (s.seq.bitPlane = 7 ∨ s.seq.bitPlane = 1 → planeBit s 130 = true) ∧
    (s.seq.bitPlane = 0 → planeBit s 130 = false))

/-- 43 R187, R190 OUTPUT_REGISTER: every output register takes the decision of the current cycle. Sampling the current
registers is decision D35 of the spec (log 17). -/
def Obligations.OutputRegisterTakesDecisions : Prop :=
  ∀ s, exec .outputRegister s = .next { s with out := {
    clk := s.seq.sclk
    stb := decide (s.seq.state = .latch)
    oe := decide (s.seq.state ≠ .blank)
    bank := s.seq.bank
    lane := s.sig.lane } }

/-- 43 R191, 10 R41: after every clock edge of a running machine all pins are the decisions of the cycle before it,
whatever the pins were (decisions D15 and D35 of the spec, log 17; a query in every cycle is D14, log 18). -/
def Obligations.PinsLagOneCycle : Prop :=
  ∀ s t, Running s → step s = .next t →
    t.out.clk = s.seq.sclk ∧ (t.out.stb = true ↔ s.seq.state = .latch) ∧ (t.out.oe = false ↔ s.seq.state = .blank) ∧
    t.out.bank = s.seq.bank ∧
    ∀ k c, t.out.lane.get k c = (gammaRead s ((answersOf s).get k c)).testBit s.seq.bitPlane

/-! ## Construction -/

/-- 40 R110 GAMMA_BUILD: entry i is the floor of `(i/255)^γ * (2^G - 1)`, truncated, not rounded. -/
def Obligations.GammaBuildFloorsScaledPower : Prop :=
  ∀ s : State, ∃ t : Vector Nat 256, exec .gammaBuild s = .next { s with gammaTable := t } ∧
    ∀ (i : Nat) (h : i < 256),
      ((t[i] : Nat) : Int) = ⌊((i : Rat) / 255) ^ s.cfg.gamma * (2 ^ s.cfg.dstBits - 1)⌋

/-- 40 R112, R113: an entry has G bits, the end points, the table does not decrease, and what R113 says of the
reference table. The integer arithmetic is decision D21 of the spec (log 13). -/
def Obligations.GammaTableBoundedAndMonotone : Prop :=
  (∀ (c : Config) (i : Nat) (h : i < 256), (gammaTableOf c)[i] ≤ 2 ^ c.dstBits - 1) ∧
  (∀ c : Config, 1 ≤ c.gamma → (gammaTableOf c)[0] = 0 ∧ (gammaTableOf c)[255] = 2 ^ c.dstBits - 1) ∧
  (∀ (c : Config) (i j : Nat) (_ : i ≤ j) (h : j < 256), (gammaTableOf c)[i] ≤ (gammaTableOf c)[j]) ∧
  (∀ (i : Nat) (h : i < 256), (gammaTableOf Config.reference)[i] = 0 ↔ i ≤ 48) ∧
  (gammaTableOf Config.reference)[49] = 1 ∧ (gammaTableOf Config.reference).toList.dedup.length = 187

/-- 42 R151 PLAN_WAIT: `wait[p] = 2^(p + T)` for p = 0 .. P-1, a function of P and T only, with the reference
values. -/
def Obligations.PlanWaitBuildsSchedule : Prop :=
  (∀ s : State, ∃ w : List Nat, exec .planWait s = .next { s with plan := { s.plan with wait := w } } ∧
    w.length = s.cfg.planeCount ∧ ∀ p, p < s.cfg.planeCount → w[p]? = some (2 ^ (p + s.cfg.shortestTimeslot))) ∧
  (∀ c c' : Config, c.planeCount = c'.planeCount → c.shortestTimeslot = c'.shortestTimeslot →
    waitSchedule c = waitSchedule c') ∧
  waitSchedule Config.reference = [8, 16, 32, 64, 128, 256, 512, 1024, 2048, 4096, 8192, 16384]

/-- 42 R152: the schedule doubles strictly, and its sum is `2^T * (2^P - 1)`. -/
def Obligations.ScheduleDoublesAndSums : Prop :=
  (∀ (c : Config) (p : Nat), p + 1 < c.planeCount →
    ∃ w, (waitSchedule c)[p]? = some w ∧ (waitSchedule c)[p + 1]? = some (2 * w)) ∧
  (∀ c : Config, (waitSchedule c).sum = 2 ^ c.shortestTimeslot * (2 ^ c.planeCount - 1)) ∧
  (waitSchedule Config.reference).sum = 32760

/-- 42 R153 PLAN_IO_FREQ: `io_freq = F / (2 D)`, with the reference value. -/
def Obligations.PlanIoFreqIsHalfPeriodRate : Prop :=
  (∀ s : State, exec .planIoFreq s =
    .next { s with plan := { s.plan with ioFreq := s.cfg.clkFreq / (2 * s.cfg.clkDelay) } }) ∧
  State.reset.plan.ioFreq = 9375000

/-- 42 R154 PLAN_TRANSFER_TIME: `(N + 1) / io_freq = 2 D (N + 1) / F` seconds, with the reference value. -/
def Obligations.PlanTransferTimeInSeconds : Prop :=
  (∀ s : State, ∃ x : Rat, exec .planTransferTime s = .next { s with plan := { s.plan with transferTime := x } } ∧
    x = (s.cfg.chainLength + 1) / (s.cfg.clkFreq / (2 * s.cfg.clkDelay)) ∧
    x = 2 * s.cfg.clkDelay * (s.cfg.chainLength + 1) / s.cfg.clkFreq) ∧
  State.reset.plan.transferTime = 13 / 1875000

/-- 42 R155 PLAN_FRAME_TIME: both forms of the planner's frame time, with the reference value (90 C3: the formula
wins). -/
def Obligations.PlanFrameTimeFormulas : Prop :=
  (∀ s : State, ∃ x : Rat, exec .planFrameTime s = .next { s with plan := { s.plan with frameTime := x } } ∧
    x = ((waitSchedule s.cfg).sum / s.cfg.clkFreq +
      (s.cfg.chainLength + 1) / (s.cfg.clkFreq / (2 * s.cfg.clkDelay))) * s.cfg.bankCount ∧
    x = s.cfg.bankCount * (2 ^ s.cfg.shortestTimeslot * (2 ^ s.cfg.planeCount - 1) +
      2 * s.cfg.clkDelay * (s.cfg.chainLength + 1)) / s.cfg.clkFreq) ∧
  State.reset.plan.frameTime = 1664 / 234375

/-- 42 R160, 43 R199: a bank sweep is as long as its plane periods together, a frame B times that; the reference
numbers; and the planner's refresh rate and blanking time (R156, R157), which are not the real ones. -/
def Obligations.RealPeriodsAddUp : Prop :=
  (∀ c : Config, bankCycles c = ((List.range c.planeCount).map (planeCycles c)).sum) ∧
  (∀ c : Config, frameCycles c = c.bankCount * bankCycles c) ∧
  (List.range 12).map (planeCycles Config.reference) =
    [533, 541, 557, 589, 653, 781, 1037, 1549, 2573, 4621, 8717, 16909] ∧
  bankCycles Config.reference = 39060 ∧ frameCycles Config.reference = 624960 ∧
  refreshRateOf Config.reference = 234375 / 1664 ∧ blankingTimeOf Config.reference = 273 / 625000

/-- 60 R222 CONFIG_VALIDATE, on a request whose fields have the types of R224: the eight checks in order, the first
failing one raised with its code, and acceptance when all pass. Order, codes and the comparison of FLOOR are decisions
D19, D23 and D28 of the spec (log 15). -/
def Obligations.ConfigValidateRaisesFirstFailure : Prop :=
  ∀ (s : State) (c : Config), s.request = requestOf c → 1 ≤ c.gamma → 1 ≤ c.dstBits → 0 ≤ c.clkFreq →
    (∀ f, c.refreshFloor = some f → 0 < f) →
    (c.chainLength = 0 → exec .configValidate s = .fault (.configError .invalidGeometry .gChain)) ∧
    (1 ≤ c.chainLength →
      (c.bankCount = 0 → exec .configValidate s = .fault (.configError .invalidGeometry .gBankZero)) ∧
      (1 ≤ c.bankCount → (∀ k, c.bankCount ≠ 2 ^ k) →
        exec .configValidate s = .fault (.configError .invalidGeometry .gBankPow2)) ∧
      ((∃ k, c.bankCount = 2 ^ k) →
        (c.planeCount = 0 → exec .configValidate s = .fault (.configError .invalidTimingBudget .tPlanes)) ∧
        (1 ≤ c.planeCount →
          (c.clkDelay = 0 → exec .configValidate s = .fault (.configError .invalidTimingBudget .tDelay)) ∧
          (1 ≤ c.clkDelay →
            (c.clkFreq = 0 → exec .configValidate s = .fault (.configError .invalidTimingBudget .tFreq)) ∧
            (0 < c.clkFreq →
              (2 ^ c.blankCounterWidth - 1 < 2 ^ (c.planeCount - 1 + c.shortestTimeslot) - 1 →
                exec .configValidate s = .fault (.configError .invalidTimingBudget .tBlankWidth)) ∧
              (2 ^ (c.planeCount - 1 + c.shortestTimeslot) - 1 ≤ 2 ^ c.blankCounterWidth - 1 →
                (∀ f, c.refreshFloor = some f → 1 / frameTimeOf c < f →
                  exec .configValidate s = .fault (.configError .invalidTimingBudget .tRefresh)) ∧
                ((∀ f, c.refreshFloor = some f → f ≤ 1 / frameTimeOf c) →
                  exec .configValidate s = .next { s with cfg := c })))))))

/-- 60 R224, 00 R8: a request is refused as Unmodelled exactly when one of its fields has no type the spec admits; a
single such field is the one named; and an absent BCW is `P - 1 + T`. Decision D20 of the spec; that F = 0 is left to
the check T_FREQ and a negative F refused is the model's reading (log 16). -/
def Obligations.AdmissionRefusesUntypedFields : Prop :=
  (∀ s : State, (∃ f, exec .configValidate s = .refused (.unmodelled f)) ↔
    NotNatural s.request.chainLength ∨ NotNatural s.request.bankCount ∨ NotNatural s.request.planeCount ∨
    NotNatural s.request.clkDelay ∨ NotNatural s.request.shortestTimeslot ∨
    NotNatural s.request.gamma ∨ s.request.gamma = 0 ∨ s.request.srcBits ≠ 8 ∨
    NotNatural s.request.dstBits ∨ s.request.dstBits = 0 ∨ s.request.clkFreq < 0 ∨
    (∃ f, s.request.refreshFloor = some f ∧ f ≤ 0) ∨
    (∃ w, s.request.blankCounterWidth = some w ∧ NotNatural w)) ∧
  (∀ (s : State) (c : Config) (q : Rat), 1 ≤ c.gamma → 1 ≤ c.dstBits → 0 ≤ c.clkFreq →
    (∀ f, c.refreshFloor = some f → 0 < f) →
    (NotNatural q → s.request = { requestOf c with chainLength := q } →
      exec .configValidate s = .refused (.unmodelled .chainLength)) ∧
    (NotNatural q → s.request = { requestOf c with bankCount := q } →
      exec .configValidate s = .refused (.unmodelled .bankCount)) ∧
    (NotNatural q → s.request = { requestOf c with planeCount := q } →
      exec .configValidate s = .refused (.unmodelled .planeCount)) ∧
    (NotNatural q → s.request = { requestOf c with clkDelay := q } →
      exec .configValidate s = .refused (.unmodelled .clkDelay)) ∧
    (NotNatural q → s.request = { requestOf c with shortestTimeslot := q } →
      exec .configValidate s = .refused (.unmodelled .shortestTimeslot)) ∧
    (NotNatural q ∨ q = 0 → s.request = { requestOf c with gamma := q } →
      exec .configValidate s = .refused (.unmodelled .gamma)) ∧
    (q ≠ 8 → s.request = { requestOf c with srcBits := q } →
      exec .configValidate s = .refused (.unmodelled .srcBits)) ∧
    (NotNatural q ∨ q = 0 → s.request = { requestOf c with dstBits := q } →
      exec .configValidate s = .refused (.unmodelled .dstBits)) ∧
    (q < 0 → s.request = { requestOf c with clkFreq := q } →
      exec .configValidate s = .refused (.unmodelled .clkFreq)) ∧
    (q ≤ 0 → s.request = { requestOf c with refreshFloor := some q } →
      exec .configValidate s = .refused (.unmodelled .refreshFloor)) ∧
    (NotNatural q → s.request = { requestOf c with blankCounterWidth := some q } →
      exec .configValidate s = .refused (.unmodelled .blankCounterWidth))) ∧
  (∀ c : Config, 1 ≤ c.gamma → 1 ≤ c.dstBits → 0 ≤ c.clkFreq → (∀ f, c.refreshFloor = some f → 0 < f) →
    admitRequest { requestOf c with blankCounterWidth := none } =
      .ok { c with blankCounterWidth := c.planeCount - 1 + c.shortestTimeslot })

/-- 70 R254, R255, 60 R223: under reset the host constructs a core with any valid configuration, and the step gives
the core with its table, schedule and exposed values, every register at its reset value; a request that CONFIG_VALIDATE
stops on yields no core; without reset there is no such move (decision D25 of the spec, log 23). -/
def Obligations.ConstructionUnderReset : Prop :=
  ∀ (s : State) (r : Request) (rest : List HostAction), s.host = .construct r :: rest →
    (∀ c, s.resetLine = true → r = requestOf c → ValidConfig c →
      step s = .next { constructed s r c with host := rest }) ∧
    (∀ e, s.resetLine = true → exec .configValidate { s with request := r } = .fault e → step s = .fault e) ∧
    (∀ e, s.resetLine = true → exec .configValidate { s with request := r } = .refused e → step s = .refused e) ∧
    (s.resetLine = false → step s = .refused .reconfigureWithoutReset)

/-! ## Reset -/

/-- 10 R46, 70 R250, R252, R253: the registers and pins at reset, for every configuration and in `State.reset`. All
but the state Idle are decisions D3 to D6 of the spec (log 10); the reference configuration is the model's choice
(log 2). -/
def Obligations.ResetRegisterValues : Prop :=
  (∀ c : Config, resetSeqRegs c = ⟨.idle, 0, 0, c.planeCount - 1, c.clkDelay - 1, 0, false⟩) ∧
  resetOutRegs = ⟨false, false, true, 0, ⟨⟨false, false, false⟩, ⟨false, false, false⟩⟩⟩ ∧
  State.reset.seq = ⟨.idle, 0, 0, 11, 3, 0, false⟩ ∧ State.reset.out = resetOutRegs ∧
  State.reset.resetLine = false ∧ selectorWord State.reset = 0x02

/-- 60 R226 to R228, 70 R250, R251: asserting reset puts every register at its reset value at once and keeps all else;
asserting it again changes nothing more; a clock edge under reset leaves the registers there and does nothing; release
changes only the input. Decisions D2 and D33 of the spec (log 11). -/
def Obligations.ResetEventAndRelease : Prop :=
  ∀ (s : State) (rest : List HostAction),
    (s.host = .assertReset :: rest →
      step s = .next { s with
        seq := resetSeqRegs s.cfg, out := resetOutRegs, resetLine := true, host := rest }) ∧
    (s.host = .assertReset :: rest → s.resetLine = true → s.seq = resetSeqRegs s.cfg → s.out = resetOutRegs →
      step s = .next { s with host := rest }) ∧
    (s.host = .releaseReset :: rest → step s = .next { s with resetLine := false, host := rest }) ∧
    (s.resetLine = true → s.host = [] →
      step s = .next { s with seq := resetSeqRegs s.cfg, out := resetOutRegs }) ∧
    (s.resetLine = true → s.host = .clock :: rest →
      step s = .next { s with seq := resetSeqRegs s.cfg, out := resetOutRegs, host := rest })

/-! ## Invariants and whole-machine rules -/

/-- The state after reset meets the invariant (10 R47, R48). -/
def Obligations.ResetMeetsInvariant : Prop :=
  Inv State.reset

/-- 10 R47, R48: every step, whatever the host does in it, keeps the invariant: ranges of the counters, no reserved
state, the shift clock low and the pixel index 0 outside ShiftOut, the blank counter within the window, the constants
those of a valid configuration. -/
def Obligations.EveryStepKeepsInvariant : Prop :=
  ∀ s t : State, Inv s → step s = .next t → Inv t

/-- 43 R186, 60 R220: a running machine outside the reserved codes always has a next state, by exactly one step arm,
and is running and outside the reserved codes again; so it runs for every number of cycles. -/
def Obligations.RunningMachineNeverStops : Prop :=
  (∀ s : State, Running s → s.seq.state.isReserved = false →
    ∃ i t, i.rowClass = .seq ∧ decode (selectorWord s) = some i ∧ step s = .next t ∧ Running t ∧
      t.seq.state.isReserved = false) ∧
  (∀ (n : Nat) (s : State), Running s → s.seq.state.isReserved = false → ∃ t, cycles n s = .next t)

/-- 43 R193: the shift clock changes only in ShiftOut, when the delay counter has run out, and then it toggles. -/
def Obligations.ShiftClockTogglesOnlyInShiftOut : Prop :=
  ∀ s t : State, InPhase s → Running s → step s = .next t →
    (t.seq.sclk ≠ s.seq.sclk ↔ s.seq.state = .shiftOut ∧ s.seq.delayCounter = 0)

/-- 10 R33, R34, 43 R183, R184, R197: after a clock edge of a running machine `bank` and `bit_plane` are as before,
except at the end of Blank, where the plane steps down, and at plane 0 is reloaded while the bank advances modulo B. -/
def Obligations.PlaneAndBankMoveOnlyAtBlankEnd : Prop :=
  ∀ s t : State, Running s → step s = .next t →
    (s.seq.state = .blank ∧ s.seq.blankCounter = 0 ∧ s.seq.bitPlane = 0 →
      t.seq.bank = (s.seq.bank + 1) % s.cfg.bankCount ∧ t.seq.bitPlane = s.cfg.planeCount - 1) ∧
    (s.seq.state = .blank ∧ s.seq.blankCounter = 0 ∧ s.seq.bitPlane ≠ 0 →
      t.seq.bank = s.seq.bank ∧ t.seq.bitPlane + 1 = s.seq.bitPlane) ∧
    (s.seq.state ≠ .blank ∨ s.seq.blankCounter ≠ 0 →
      t.seq.bank = s.seq.bank ∧ t.seq.bitPlane = s.seq.bitPlane)

/-- 10 R43, R44, 40 R114: only a construction changes the configuration, the gamma table and the planner's values;
a clock edge also leaves the reset input and the host's list of a running machine alone. -/
def Obligations.OnlyConstructionWritesConstants : Prop :=
  ∀ s t : State, step s = .next t →
    ((∀ r rest, s.host ≠ .construct r :: rest) →
      t.request = s.request ∧ t.cfg = s.cfg ∧ t.gammaTable = s.gammaTable ∧ t.plan = s.plan) ∧
    (Running s → Running t)

/-- The frame of each instruction (10 R31 to R37, R41, 43 R170, 40 R114, 60 R222): a step arm writes sequencer
registers only, and each of them only by the arms named; a combinational row writes signals or pins only; a
construction function writes only the constant it makes. -/
def Obligations.InstructionFrames : Prop :=
  ∀ (i : Instr) (s t : State), exec i s = .next t →
    (i.rowClass = .seq → t = { s with seq := t.seq }) ∧
    (i.rowClass = .seq → i ≠ .idle → i ≠ .shiftFall → i ≠ .shiftLast → t.seq.pixelIndex = s.seq.pixelIndex) ∧
    (i.rowClass = .seq → i ≠ .blankEndBank → t.seq.bank = s.seq.bank) ∧
    (i.rowClass = .seq → i ≠ .blankEndPlane → i ≠ .blankEndBank → t.seq.bitPlane = s.seq.bitPlane) ∧
    (i.rowClass = .seq → i ≠ .latchPostEnd → i ≠ .blankWait → t.seq.blankCounter = s.seq.blankCounter) ∧
    (i.rowClass = .seq → i ≠ .idle → i ≠ .shiftRise → i ≠ .shiftFall → i ≠ .shiftLast → t.seq.sclk = s.seq.sclk) ∧
    (i = .blankWait ∨ i = .blankEndPlane ∨ i = .blankEndBank → t.seq.delayCounter = s.seq.delayCounter) ∧
    (i = .shiftWait ∨ i = .shiftRise ∨ i = .shiftFall ∨ i = .latchPreWait ∨ i = .latchWait ∨ i = .latchPostWait ∨
      i = .blankWait → t.seq.state = s.seq.state) ∧
    (i = .gammaLookup → t = { s with sig := { s.sig with gv := t.sig.gv } }) ∧
    (i = .laneBit → t = { s with sig := { s.sig with lane := t.sig.lane } }) ∧
    (i = .outputRegister → t = { s with out := t.out }) ∧
    (i = .gammaBuild → t = { s with gammaTable := t.gammaTable }) ∧
    (i = .planWait → t = { s with plan := { s.plan with wait := t.plan.wait } }) ∧
    (i = .planIoFreq → t = { s with plan := { s.plan with ioFreq := t.plan.ioFreq } }) ∧
    (i = .planTransferTime → t = { s with plan := { s.plan with transferTime := t.plan.transferTime } }) ∧
    (i = .planFrameTime → t = { s with plan := { s.plan with frameTime := t.plan.frameTime } }) ∧
    (i = .configValidate → t = { s with cfg := t.cfg })

/-! ## The pixel pipeline -/

/-- 41 R131, 30 R98: with B a power of two and the bank in range, the row of sub-panel k is `bank + B * k`, one of
the 2B panel rows. -/
def Obligations.RowIndexIsSum : Prop :=
  ∀ (s : State) (j : Nat), s.cfg.bankCount = 2 ^ j → s.seq.bank < s.cfg.bankCount →
    rowIndex s .sub0 = s.seq.bank ∧ rowIndex s .sub1 = s.seq.bank + s.cfg.bankCount ∧
    ∀ k, rowIndex s k < 2 * s.cfg.bankCount

/-- 20 R75, R77, 41 R132: a cycle queries the colour source at the current pixel and the two rows. A static image
answers from the pixel there and stays as it is; a free source answers with the next two free values (decision D14 of
the spec, log 4, 18), for any values these have. The answers are read from the model's own signals field (log 3). -/
def Obligations.QueriesFollowTheSource : Prop :=
  ∀ s t : State, Running s → step s = .next t →
    (∀ rows k row px, s.source = .image rows → rows[rowIndex s k]? = some row → row[s.seq.pixelIndex]? = some px →
      t.sig.answers.sub k = px ∧ t.source = .image rows) ∧
    (s.source = .draw → t.sig.answers.sub .sub0 = Config.sampleDraw s.draws ∧
      t.sig.answers.sub .sub1 = Config.sampleDraw (s.draws + 1) ∧ t.source = .draw ∧ t.draws = s.draws + 2)

/-- 41 R130, R135: the value of lane [k][c] depends only on the lane's own answer, the bit-plane and the gamma
table. The lane is read at the pin after the clock edge (decisions D15 and D35 of the spec, log 17), and its answer is
that of the cycle's query (D14, log 18). -/
def Obligations.LanesAreIndependent : Prop :=
  ∀ (s₁ s₂ t₁ t₂ : State) (k : SubPanel) (c : Colour), Running s₁ → Running s₂ →
    step s₁ = .next t₁ → step s₂ = .next t₂ → s₁.gammaTable = s₂.gammaTable → s₁.seq.bitPlane = s₂.seq.bitPlane →
    (answersOf s₁).get k c = (answersOf s₂).get k c → t₁.out.lane.get k c = t₂.out.lane.get k c

/-- 41 R136: in a plane beyond the gamma width every lane is 0 (decision D29 of the spec, log 25). The lane is read at
the pin after the clock edge (decisions D15 and D35, log 17). -/
def Obligations.PlanesBeyondGammaAreDark : Prop :=
  ∀ s t : State, Built s → Running s → s.cfg.dstBits ≤ s.seq.bitPlane → step s = .next t →
    ∀ k c, t.out.lane.get k c = false

/-- 43 R201, R186: the sequencer registers do not depend on the colour source's answers, on the free values or on
anything but the configuration and the schedule, over any number of cycles. -/
def Obligations.SequencerIgnoresColours : Prop :=
  ∀ (n : Nat) (s₁ s₂ : State), Running s₁ → Running s₂ → s₁.cfg = s₂.cfg → s₁.plan.wait = s₂.plan.wait →
    s₁.seq = s₂.seq → seqOf (cycles n s₁) = seqOf (cycles n s₂)

/-- 42 R159: the clock frequency, and with it every reported value but the schedule, changes no register and no pin
in any cycle. -/
def Obligations.ClockFrequencyChangesNoCycle : Prop :=
  ∀ (n : Nat) (s : State) (f io tt ft : Rat), Running s →
    seqOf (cycles n { s with
      cfg := { s.cfg with clkFreq := f }
      plan := { s.plan with ioFreq := io, transferTime := tt, frameTime := ft } }) = seqOf (cycles n s) ∧
    pinsOf (cycles n { s with
      cfg := { s.cfg with clkFreq := f }
      plan := { s.plan with ioFreq := io, transferTime := tt, frameTime := ft } }) = pinsOf (cycles n s)

/-! ## The scan sequence -/

/-- 43 R192, R194, 30 R105: from any Idle, every register in every cycle of the plane period: Idle 1, ShiftOut 2ND
with a toggle every D cycles, each guard D, Blank wait[bit_plane] cycles. The reloads are decisions D7 to D9 of the
spec (log 12). -/
def Obligations.PlanePeriodRegisterTimeline : Prop :=
  ∀ (s : State) (n : Nat), Inv s → Running s → s.seq.state = .idle → 1 ≤ n →
    n < planeCycles s.cfg s.seq.bitPlane →
      ∃ t, cycles n s = .next t ∧ t.seq = planeTimeline s.cfg s.seq n ∧ Running t ∧ t.cfg = s.cfg

/-- 43 R195, R196, R198: from any Idle, the pins in every cycle of the plane period up to the next Idle. `out_stb` is
1 in D cycles, `out_oe` is 0 in wait[bit_plane] cycles, `out_clk` pulses N times, `out_bank` is the bank. The reloads and
the skew are decisions D7 to D9, D35 of the spec (log 12, 17). -/
def Obligations.PlanePeriodPinTimeline : Prop :=
  ∀ (s : State) (n : Nat), Inv s → Running s → s.seq.state = .idle → 1 ≤ n →
    n ≤ planeCycles s.cfg s.seq.bitPlane →
      ∃ o, pinsOf (cycles n s) = some o ∧ o.bank = s.seq.bank ∧
        (o.stb = true ↔ 2 * s.cfg.chainLength * s.cfg.clkDelay + s.cfg.clkDelay + 2 ≤ n ∧
          n ≤ 2 * s.cfg.chainLength * s.cfg.clkDelay + 2 * s.cfg.clkDelay + 1) ∧
        (o.oe = false ↔ 2 * s.cfg.chainLength * s.cfg.clkDelay + 3 * s.cfg.clkDelay + 2 ≤ n ∧
          n ≤ 2 * s.cfg.chainLength * s.cfg.clkDelay + 3 * s.cfg.clkDelay
            + 2 ^ (s.seq.bitPlane + s.cfg.shortestTimeslot) + 1) ∧
        (o.clk = true ↔ ∃ i, i < s.cfg.chainLength ∧ (2 * i + 1) * s.cfg.clkDelay + 2 ≤ n ∧
          n ≤ (2 * i + 2) * s.cfg.clkDelay + 1)

/-- 43 R198, 41 R134: with a static image, the lanes carry pixel i of the plane in cycles 2iD + 2 to (2i + 2)D + 1 of
the plane period: D cycles before the rising edge of its clock, until the falling edge. Cycle 1, where pixel 0 already
shows, is left out. The half-period is the reload of decision D7 of the spec (log 12), the query in every cycle D14 (log
18), the registered lanes and the skew D15 and D35 (log 17). -/
def Obligations.LanesCarryPixelDuringItsClock : Prop :=
  ∀ (s : State) (rows : List (List (Rgb Byte))) (i n : Nat), Inv s → Running s → s.seq.state = .idle →
    s.source = .image rows → i < s.cfg.chainLength → 2 * i * s.cfg.clkDelay + 2 ≤ n →
    n ≤ (2 * i + 2) * s.cfg.clkDelay + 1 →
      ∃ o, pinsOf (cycles n s) = some o ∧
        ∀ k row px, rows[rowIndex s k]? = some row → row[i]? = some px →
          ∀ c, o.lane.get k c = (gammaRead s (px.get c)).testBit s.seq.bitPlane

/-- 43 R199, R183, R184: a plane period lasts exactly `1 + 2ND + 3D + wait[p]` cycles. Then the machine is at the Idle
of the next plane, or of the next bank, and at no Idle in between. The reloads are decisions D7 to D9 (log 12). -/
def Obligations.PlanePeriodReachesNextIdle : Prop :=
  ∀ s : State, Inv s → Running s → s.seq.state = .idle →
    (∃ t, cycles (planeCycles s.cfg s.seq.bitPlane) s = .next t ∧ t.seq = nextPlaneRegs s.cfg s.seq ∧ Running t ∧
      Inv t ∧ t.cfg = s.cfg) ∧
    ∀ n t, 1 ≤ n → n < planeCycles s.cfg s.seq.bitPlane → cycles n s = .next t → t.seq.state ≠ .idle

/-- 43 R197, R199: a bank sweep from plane P-1 visits, at its Idle cycles, the planes P-1 down to 0, and after
`bank_cycles` cycles the bank has advanced once, modulo B. The reloads are decisions D7 to D9 (log 12). -/
def Obligations.BankSweepVisitsPlanesDownward : Prop :=
  ∀ s : State, Inv s → Running s → s.seq.state = .idle → s.seq.bitPlane = s.cfg.planeCount - 1 →
    (∀ j, j < s.cfg.planeCount → ∃ t,
      cycles (((List.range j).map fun m => planeCycles s.cfg (s.cfg.planeCount - 1 - m)).sum) s = .next t ∧
      t.seq.state = .idle ∧ t.seq.bitPlane = s.cfg.planeCount - 1 - j ∧ t.seq.bank = s.seq.bank) ∧
    ∃ t, cycles (bankCycles s.cfg) s = .next t ∧ t.seq.state = .idle ∧ t.seq.bitPlane = s.cfg.planeCount - 1 ∧
      t.seq.bank = (s.seq.bank + 1) % s.cfg.bankCount

/-- 43 R200, 70 R256, R258: after exactly `frame_cycles` cycles from the reset registers the sequencer registers are
the reset registers again. The reset values are decisions D3 to D5 of the spec (log 10), and the count of cycles rests
on the reloads of decisions D7 to D9 (log 12). -/
def Obligations.FrameReturnsToResetRegisters : Prop :=
  ∀ s : State, Inv s → Running s → s.seq = resetSeqRegs s.cfg →
    ∃ t, cycles (frameCycles s.cfg) s = .next t ∧ t.seq = resetSeqRegs s.cfg ∧ Running t ∧ Inv t

/-- 43 R202: from every state that meets the invariant a running machine is at Idle again within the longest plane
period. The bound rests on the reloads of decisions D7 to D9 of the spec (log 12). -/
def Obligations.IdleWithinLongestPlanePeriod : Prop :=
  ∀ s : State, Inv s → Running s →
    ∃ n t, 1 ≤ n ∧ n ≤ planeCycles s.cfg (s.cfg.planeCount - 1) ∧ cycles n s = .next t ∧ t.seq.state = .idle
end

