-- ==== Sys2Proof/Laws/State.lean ====
section
/-! SUPPORT. What each setter of Machine/Ops.lean does to each field of the state, one lemma per field, so that no
later proof unfolds a record update. -/

namespace Sys2Proof.Machine

@[simp] theorem State.withSeq_request (s : State) (r : SeqRegs) : (s.withSeq r).request = s.request := rfl
@[simp] theorem State.withSeq_cfg (s : State) (r : SeqRegs) : (s.withSeq r).cfg = s.cfg := rfl
@[simp] theorem State.withSeq_gammaTable (s : State) (r : SeqRegs) : (s.withSeq r).gammaTable = s.gammaTable := rfl
@[simp] theorem State.withSeq_plan (s : State) (r : SeqRegs) : (s.withSeq r).plan = s.plan := rfl
@[simp] theorem State.withSeq_seq (s : State) (r : SeqRegs) : (s.withSeq r).seq = r := rfl
@[simp] theorem State.withSeq_out (s : State) (r : SeqRegs) : (s.withSeq r).out = s.out := rfl
@[simp] theorem State.withSeq_sig (s : State) (r : SeqRegs) : (s.withSeq r).sig = s.sig := rfl
@[simp] theorem State.withSeq_resetLine (s : State) (r : SeqRegs) : (s.withSeq r).resetLine = s.resetLine := rfl
@[simp] theorem State.withSeq_source (s : State) (r : SeqRegs) : (s.withSeq r).source = s.source := rfl
@[simp] theorem State.withSeq_draws (s : State) (r : SeqRegs) : (s.withSeq r).draws = s.draws := rfl
@[simp] theorem State.withSeq_host (s : State) (r : SeqRegs) : (s.withSeq r).host = s.host := rfl

@[simp] theorem State.withOut_request (s : State) (o : OutRegs) : (s.withOut o).request = s.request := rfl
@[simp] theorem State.withOut_cfg (s : State) (o : OutRegs) : (s.withOut o).cfg = s.cfg := rfl
@[simp] theorem State.withOut_gammaTable (s : State) (o : OutRegs) : (s.withOut o).gammaTable = s.gammaTable := rfl
@[simp] theorem State.withOut_plan (s : State) (o : OutRegs) : (s.withOut o).plan = s.plan := rfl
@[simp] theorem State.withOut_seq (s : State) (o : OutRegs) : (s.withOut o).seq = s.seq := rfl
@[simp] theorem State.withOut_out (s : State) (o : OutRegs) : (s.withOut o).out = o := rfl
@[simp] theorem State.withOut_sig (s : State) (o : OutRegs) : (s.withOut o).sig = s.sig := rfl
@[simp] theorem State.withOut_resetLine (s : State) (o : OutRegs) : (s.withOut o).resetLine = s.resetLine := rfl
@[simp] theorem State.withOut_source (s : State) (o : OutRegs) : (s.withOut o).source = s.source := rfl
@[simp] theorem State.withOut_draws (s : State) (o : OutRegs) : (s.withOut o).draws = s.draws := rfl
@[simp] theorem State.withOut_host (s : State) (o : OutRegs) : (s.withOut o).host = s.host := rfl

@[simp] theorem State.withAnswers_request (s : State) (a : Lanes Byte) : (s.withAnswers a).request = s.request := rfl
@[simp] theorem State.withAnswers_cfg (s : State) (a : Lanes Byte) : (s.withAnswers a).cfg = s.cfg := rfl
@[simp] theorem State.withAnswers_gammaTable (s : State) (a : Lanes Byte) : (s.withAnswers a).gammaTable = s.gammaTable := rfl
@[simp] theorem State.withAnswers_plan (s : State) (a : Lanes Byte) : (s.withAnswers a).plan = s.plan := rfl
@[simp] theorem State.withAnswers_seq (s : State) (a : Lanes Byte) : (s.withAnswers a).seq = s.seq := rfl
@[simp] theorem State.withAnswers_out (s : State) (a : Lanes Byte) : (s.withAnswers a).out = s.out := rfl
@[simp] theorem State.withAnswers_sig (s : State) (a : Lanes Byte) : (s.withAnswers a).sig = { s.sig with answers := a } := rfl
@[simp] theorem State.withAnswers_resetLine (s : State) (a : Lanes Byte) : (s.withAnswers a).resetLine = s.resetLine := rfl
@[simp] theorem State.withAnswers_source (s : State) (a : Lanes Byte) : (s.withAnswers a).source = s.source := rfl
@[simp] theorem State.withAnswers_draws (s : State) (a : Lanes Byte) : (s.withAnswers a).draws = s.draws := rfl
@[simp] theorem State.withAnswers_host (s : State) (a : Lanes Byte) : (s.withAnswers a).host = s.host := rfl

@[simp] theorem State.withGv_request (s : State) (g : Lanes Nat) : (s.withGv g).request = s.request := rfl
@[simp] theorem State.withGv_cfg (s : State) (g : Lanes Nat) : (s.withGv g).cfg = s.cfg := rfl
@[simp] theorem State.withGv_gammaTable (s : State) (g : Lanes Nat) : (s.withGv g).gammaTable = s.gammaTable := rfl
@[simp] theorem State.withGv_plan (s : State) (g : Lanes Nat) : (s.withGv g).plan = s.plan := rfl
@[simp] theorem State.withGv_seq (s : State) (g : Lanes Nat) : (s.withGv g).seq = s.seq := rfl
@[simp] theorem State.withGv_out (s : State) (g : Lanes Nat) : (s.withGv g).out = s.out := rfl
@[simp] theorem State.withGv_sig (s : State) (g : Lanes Nat) : (s.withGv g).sig = { s.sig with gv := g } := rfl
@[simp] theorem State.withGv_resetLine (s : State) (g : Lanes Nat) : (s.withGv g).resetLine = s.resetLine := rfl
@[simp] theorem State.withGv_source (s : State) (g : Lanes Nat) : (s.withGv g).source = s.source := rfl
@[simp] theorem State.withGv_draws (s : State) (g : Lanes Nat) : (s.withGv g).draws = s.draws := rfl
@[simp] theorem State.withGv_host (s : State) (g : Lanes Nat) : (s.withGv g).host = s.host := rfl

@[simp] theorem State.withLane_request (s : State) (l : Lanes Bool) : (s.withLane l).request = s.request := rfl
@[simp] theorem State.withLane_cfg (s : State) (l : Lanes Bool) : (s.withLane l).cfg = s.cfg := rfl
@[simp] theorem State.withLane_gammaTable (s : State) (l : Lanes Bool) : (s.withLane l).gammaTable = s.gammaTable := rfl
@[simp] theorem State.withLane_plan (s : State) (l : Lanes Bool) : (s.withLane l).plan = s.plan := rfl
@[simp] theorem State.withLane_seq (s : State) (l : Lanes Bool) : (s.withLane l).seq = s.seq := rfl
@[simp] theorem State.withLane_out (s : State) (l : Lanes Bool) : (s.withLane l).out = s.out := rfl
@[simp] theorem State.withLane_sig (s : State) (l : Lanes Bool) : (s.withLane l).sig = { s.sig with lane := l } := rfl
@[simp] theorem State.withLane_resetLine (s : State) (l : Lanes Bool) : (s.withLane l).resetLine = s.resetLine := rfl
@[simp] theorem State.withLane_source (s : State) (l : Lanes Bool) : (s.withLane l).source = s.source := rfl
@[simp] theorem State.withLane_draws (s : State) (l : Lanes Bool) : (s.withLane l).draws = s.draws := rfl
@[simp] theorem State.withLane_host (s : State) (l : Lanes Bool) : (s.withLane l).host = s.host := rfl

@[simp] theorem State.withCfg_request (s : State) (c : Config) : (s.withCfg c).request = s.request := rfl
@[simp] theorem State.withCfg_cfg (s : State) (c : Config) : (s.withCfg c).cfg = c := rfl
@[simp] theorem State.withCfg_gammaTable (s : State) (c : Config) : (s.withCfg c).gammaTable = s.gammaTable := rfl
@[simp] theorem State.withCfg_plan (s : State) (c : Config) : (s.withCfg c).plan = s.plan := rfl
@[simp] theorem State.withCfg_seq (s : State) (c : Config) : (s.withCfg c).seq = s.seq := rfl
@[simp] theorem State.withCfg_out (s : State) (c : Config) : (s.withCfg c).out = s.out := rfl
@[simp] theorem State.withCfg_sig (s : State) (c : Config) : (s.withCfg c).sig = s.sig := rfl
@[simp] theorem State.withCfg_resetLine (s : State) (c : Config) : (s.withCfg c).resetLine = s.resetLine := rfl
@[simp] theorem State.withCfg_source (s : State) (c : Config) : (s.withCfg c).source = s.source := rfl
@[simp] theorem State.withCfg_draws (s : State) (c : Config) : (s.withCfg c).draws = s.draws := rfl
@[simp] theorem State.withCfg_host (s : State) (c : Config) : (s.withCfg c).host = s.host := rfl

@[simp] theorem State.withRequest_request (s : State) (r : Request) : (s.withRequest r).request = r := rfl
@[simp] theorem State.withRequest_cfg (s : State) (r : Request) : (s.withRequest r).cfg = s.cfg := rfl
@[simp] theorem State.withRequest_gammaTable (s : State) (r : Request) : (s.withRequest r).gammaTable = s.gammaTable := rfl
@[simp] theorem State.withRequest_plan (s : State) (r : Request) : (s.withRequest r).plan = s.plan := rfl
@[simp] theorem State.withRequest_seq (s : State) (r : Request) : (s.withRequest r).seq = s.seq := rfl
@[simp] theorem State.withRequest_out (s : State) (r : Request) : (s.withRequest r).out = s.out := rfl
@[simp] theorem State.withRequest_sig (s : State) (r : Request) : (s.withRequest r).sig = s.sig := rfl
@[simp] theorem State.withRequest_resetLine (s : State) (r : Request) : (s.withRequest r).resetLine = s.resetLine := rfl
@[simp] theorem State.withRequest_source (s : State) (r : Request) : (s.withRequest r).source = s.source := rfl
@[simp] theorem State.withRequest_draws (s : State) (r : Request) : (s.withRequest r).draws = s.draws := rfl
@[simp] theorem State.withRequest_host (s : State) (r : Request) : (s.withRequest r).host = s.host := rfl

@[simp] theorem State.withGammaTable_request (s : State) (t : Vector Nat 256) : (s.withGammaTable t).request = s.request := rfl
@[simp] theorem State.withGammaTable_cfg (s : State) (t : Vector Nat 256) : (s.withGammaTable t).cfg = s.cfg := rfl
@[simp] theorem State.withGammaTable_gammaTable (s : State) (t : Vector Nat 256) : (s.withGammaTable t).gammaTable = t := rfl
@[simp] theorem State.withGammaTable_plan (s : State) (t : Vector Nat 256) : (s.withGammaTable t).plan = s.plan := rfl
@[simp] theorem State.withGammaTable_seq (s : State) (t : Vector Nat 256) : (s.withGammaTable t).seq = s.seq := rfl
@[simp] theorem State.withGammaTable_out (s : State) (t : Vector Nat 256) : (s.withGammaTable t).out = s.out := rfl
@[simp] theorem State.withGammaTable_sig (s : State) (t : Vector Nat 256) : (s.withGammaTable t).sig = s.sig := rfl
@[simp] theorem State.withGammaTable_resetLine (s : State) (t : Vector Nat 256) : (s.withGammaTable t).resetLine = s.resetLine := rfl
@[simp] theorem State.withGammaTable_source (s : State) (t : Vector Nat 256) : (s.withGammaTable t).source = s.source := rfl
@[simp] theorem State.withGammaTable_draws (s : State) (t : Vector Nat 256) : (s.withGammaTable t).draws = s.draws := rfl
@[simp] theorem State.withGammaTable_host (s : State) (t : Vector Nat 256) : (s.withGammaTable t).host = s.host := rfl

@[simp] theorem State.withPlan_request (s : State) (p : Plan) : (s.withPlan p).request = s.request := rfl
@[simp] theorem State.withPlan_cfg (s : State) (p : Plan) : (s.withPlan p).cfg = s.cfg := rfl
@[simp] theorem State.withPlan_gammaTable (s : State) (p : Plan) : (s.withPlan p).gammaTable = s.gammaTable := rfl
@[simp] theorem State.withPlan_plan (s : State) (p : Plan) : (s.withPlan p).plan = p := rfl
@[simp] theorem State.withPlan_seq (s : State) (p : Plan) : (s.withPlan p).seq = s.seq := rfl
@[simp] theorem State.withPlan_out (s : State) (p : Plan) : (s.withPlan p).out = s.out := rfl
@[simp] theorem State.withPlan_sig (s : State) (p : Plan) : (s.withPlan p).sig = s.sig := rfl
@[simp] theorem State.withPlan_resetLine (s : State) (p : Plan) : (s.withPlan p).resetLine = s.resetLine := rfl
@[simp] theorem State.withPlan_source (s : State) (p : Plan) : (s.withPlan p).source = s.source := rfl
@[simp] theorem State.withPlan_draws (s : State) (p : Plan) : (s.withPlan p).draws = s.draws := rfl
@[simp] theorem State.withPlan_host (s : State) (p : Plan) : (s.withPlan p).host = s.host := rfl

@[simp] theorem State.withResetLine_request (s : State) (b : Bool) : (s.withResetLine b).request = s.request := rfl
@[simp] theorem State.withResetLine_cfg (s : State) (b : Bool) : (s.withResetLine b).cfg = s.cfg := rfl
@[simp] theorem State.withResetLine_gammaTable (s : State) (b : Bool) : (s.withResetLine b).gammaTable = s.gammaTable := rfl
@[simp] theorem State.withResetLine_plan (s : State) (b : Bool) : (s.withResetLine b).plan = s.plan := rfl
@[simp] theorem State.withResetLine_seq (s : State) (b : Bool) : (s.withResetLine b).seq = s.seq := rfl
@[simp] theorem State.withResetLine_out (s : State) (b : Bool) : (s.withResetLine b).out = s.out := rfl
@[simp] theorem State.withResetLine_sig (s : State) (b : Bool) : (s.withResetLine b).sig = s.sig := rfl
@[simp] theorem State.withResetLine_resetLine (s : State) (b : Bool) : (s.withResetLine b).resetLine = b := rfl
@[simp] theorem State.withResetLine_source (s : State) (b : Bool) : (s.withResetLine b).source = s.source := rfl
@[simp] theorem State.withResetLine_draws (s : State) (b : Bool) : (s.withResetLine b).draws = s.draws := rfl
@[simp] theorem State.withResetLine_host (s : State) (b : Bool) : (s.withResetLine b).host = s.host := rfl

@[simp] theorem State.withSource_request (s : State) (src : ColourSource) : (s.withSource src).request = s.request := rfl
@[simp] theorem State.withSource_cfg (s : State) (src : ColourSource) : (s.withSource src).cfg = s.cfg := rfl
@[simp] theorem State.withSource_gammaTable (s : State) (src : ColourSource) : (s.withSource src).gammaTable = s.gammaTable := rfl
@[simp] theorem State.withSource_plan (s : State) (src : ColourSource) : (s.withSource src).plan = s.plan := rfl
@[simp] theorem State.withSource_seq (s : State) (src : ColourSource) : (s.withSource src).seq = s.seq := rfl
@[simp] theorem State.withSource_out (s : State) (src : ColourSource) : (s.withSource src).out = s.out := rfl
@[simp] theorem State.withSource_sig (s : State) (src : ColourSource) : (s.withSource src).sig = s.sig := rfl
@[simp] theorem State.withSource_resetLine (s : State) (src : ColourSource) : (s.withSource src).resetLine = s.resetLine := rfl
@[simp] theorem State.withSource_source (s : State) (src : ColourSource) : (s.withSource src).source = src := rfl
@[simp] theorem State.withSource_draws (s : State) (src : ColourSource) : (s.withSource src).draws = s.draws := rfl
@[simp] theorem State.withSource_host (s : State) (src : ColourSource) : (s.withSource src).host = s.host := rfl

@[simp] theorem State.withHost_request (s : State) (h : List HostAction) : (s.withHost h).request = s.request := rfl
@[simp] theorem State.withHost_cfg (s : State) (h : List HostAction) : (s.withHost h).cfg = s.cfg := rfl
@[simp] theorem State.withHost_gammaTable (s : State) (h : List HostAction) : (s.withHost h).gammaTable = s.gammaTable := rfl
@[simp] theorem State.withHost_plan (s : State) (h : List HostAction) : (s.withHost h).plan = s.plan := rfl
@[simp] theorem State.withHost_seq (s : State) (h : List HostAction) : (s.withHost h).seq = s.seq := rfl
@[simp] theorem State.withHost_out (s : State) (h : List HostAction) : (s.withHost h).out = s.out := rfl
@[simp] theorem State.withHost_sig (s : State) (h : List HostAction) : (s.withHost h).sig = s.sig := rfl
@[simp] theorem State.withHost_resetLine (s : State) (h : List HostAction) : (s.withHost h).resetLine = s.resetLine := rfl
@[simp] theorem State.withHost_source (s : State) (h : List HostAction) : (s.withHost h).source = s.source := rfl
@[simp] theorem State.withHost_draws (s : State) (h : List HostAction) : (s.withHost h).draws = s.draws := rfl
@[simp] theorem State.withHost_host (s : State) (h : List HostAction) : (s.withHost h).host = h := rfl

@[simp] theorem State.sample_request (s : State) : s.sample.request = s.request := rfl
@[simp] theorem State.sample_cfg (s : State) : s.sample.cfg = s.cfg := rfl
@[simp] theorem State.sample_gammaTable (s : State) : s.sample.gammaTable = s.gammaTable := rfl
@[simp] theorem State.sample_plan (s : State) : s.sample.plan = s.plan := rfl
@[simp] theorem State.sample_seq (s : State) : s.sample.seq = s.seq := rfl
@[simp] theorem State.sample_out (s : State) : s.sample.out = s.out := rfl
@[simp] theorem State.sample_sig (s : State) : s.sample.sig = { s.sig with answers := answersOf s } := rfl
@[simp] theorem State.sample_resetLine (s : State) : s.sample.resetLine = s.resetLine := rfl
@[simp] theorem State.sample_source (s : State) : s.sample.source = sourceNext s.source := rfl
@[simp] theorem State.sample_draws (s : State) : s.sample.draws = s.draws + 2 := rfl
@[simp] theorem State.sample_host (s : State) : s.sample.host = s.host := rfl

@[simp] theorem State.resetRegisters_request (s : State) : s.resetRegisters.request = s.request := rfl
@[simp] theorem State.resetRegisters_cfg (s : State) : s.resetRegisters.cfg = s.cfg := rfl
@[simp] theorem State.resetRegisters_gammaTable (s : State) : s.resetRegisters.gammaTable = s.gammaTable := rfl
@[simp] theorem State.resetRegisters_plan (s : State) : s.resetRegisters.plan = s.plan := rfl
@[simp] theorem State.resetRegisters_seq (s : State) : s.resetRegisters.seq = resetSeqRegs s.cfg := rfl
@[simp] theorem State.resetRegisters_out (s : State) : s.resetRegisters.out = resetOutRegs := rfl
@[simp] theorem State.resetRegisters_sig (s : State) : s.resetRegisters.sig = s.sig := rfl
@[simp] theorem State.resetRegisters_resetLine (s : State) : s.resetRegisters.resetLine = s.resetLine := rfl
@[simp] theorem State.resetRegisters_source (s : State) : s.resetRegisters.source = s.source := rfl
@[simp] theorem State.resetRegisters_draws (s : State) : s.resetRegisters.draws = s.draws := rfl
@[simp] theorem State.resetRegisters_host (s : State) : s.resetRegisters.host = s.host := rfl

@[simp] theorem State.assertReset_request (s : State) : s.assertReset.request = s.request := rfl
@[simp] theorem State.assertReset_cfg (s : State) : s.assertReset.cfg = s.cfg := rfl
@[simp] theorem State.assertReset_gammaTable (s : State) : s.assertReset.gammaTable = s.gammaTable := rfl
@[simp] theorem State.assertReset_plan (s : State) : s.assertReset.plan = s.plan := rfl
@[simp] theorem State.assertReset_seq (s : State) : s.assertReset.seq = resetSeqRegs s.cfg := rfl
@[simp] theorem State.assertReset_out (s : State) : s.assertReset.out = resetOutRegs := rfl
@[simp] theorem State.assertReset_sig (s : State) : s.assertReset.sig = s.sig := rfl
@[simp] theorem State.assertReset_resetLine (s : State) : s.assertReset.resetLine = true := rfl
@[simp] theorem State.assertReset_source (s : State) : s.assertReset.source = s.source := rfl
@[simp] theorem State.assertReset_draws (s : State) : s.assertReset.draws = s.draws := rfl
@[simp] theorem State.assertReset_host (s : State) : s.assertReset.host = s.host := rfl

@[simp] theorem State.releaseReset_request (s : State) : s.releaseReset.request = s.request := rfl
@[simp] theorem State.releaseReset_cfg (s : State) : s.releaseReset.cfg = s.cfg := rfl
@[simp] theorem State.releaseReset_gammaTable (s : State) : s.releaseReset.gammaTable = s.gammaTable := rfl
@[simp] theorem State.releaseReset_plan (s : State) : s.releaseReset.plan = s.plan := rfl
@[simp] theorem State.releaseReset_seq (s : State) : s.releaseReset.seq = s.seq := rfl
@[simp] theorem State.releaseReset_out (s : State) : s.releaseReset.out = s.out := rfl
@[simp] theorem State.releaseReset_sig (s : State) : s.releaseReset.sig = s.sig := rfl
@[simp] theorem State.releaseReset_resetLine (s : State) : s.releaseReset.resetLine = false := rfl
@[simp] theorem State.releaseReset_source (s : State) : s.releaseReset.source = s.source := rfl
@[simp] theorem State.releaseReset_draws (s : State) : s.releaseReset.draws = s.draws := rfl
@[simp] theorem State.releaseReset_host (s : State) : s.releaseReset.host = s.host := rfl

@[simp] theorem State.withSelector_request (s : State) (w : Word) : (s.withSelector w).request = s.request := rfl
@[simp] theorem State.withSelector_cfg (s : State) (w : Word) : (s.withSelector w).cfg = s.cfg := rfl
@[simp] theorem State.withSelector_gammaTable (s : State) (w : Word) : (s.withSelector w).gammaTable = s.gammaTable := rfl
@[simp] theorem State.withSelector_plan (s : State) (w : Word) : (s.withSelector w).plan = s.plan := rfl
@[simp] theorem State.withSelector_seq (s : State) (w : Word) : (s.withSelector w).seq = seqForSelector s.cfg s.seq w := rfl
@[simp] theorem State.withSelector_out (s : State) (w : Word) : (s.withSelector w).out = s.out := rfl
@[simp] theorem State.withSelector_sig (s : State) (w : Word) : (s.withSelector w).sig = s.sig := rfl
@[simp] theorem State.withSelector_resetLine (s : State) (w : Word) : (s.withSelector w).resetLine = false := rfl
@[simp] theorem State.withSelector_source (s : State) (w : Word) : (s.withSelector w).source = s.source := rfl
@[simp] theorem State.withSelector_draws (s : State) (w : Word) : (s.withSelector w).draws = s.draws := rfl
@[simp] theorem State.withSelector_host (s : State) (w : Word) : (s.withSelector w).host = [] := rfl

end Sys2Proof.Machine
end

