-- ==== Sys2Proof/Laws/Ops.lean ====
section
/-! SUPPORT. For each shared operation, once, everything it can do. -/

namespace Sys2Proof.Machine

/-! ### Outcomes -/

@[simp] theorem andThen_next (s : State) (f : State → Host.Outcome State Fault Refusal) :
    andThen (.next s) f = f s := rfl

@[simp] theorem andThen_fault (e : Fault) (f : State → Host.Outcome State Fault Refusal) :
    andThen (.fault e) f = .fault e := rfl

@[simp] theorem andThen_refused (e : Refusal) (f : State → Host.Outcome State Fault Refusal) :
    andThen (.refused e) f = .refused e := rfl

/-- A composed operation that answers a next state went through one. -/
theorem andThen_eq_next {o : Host.Outcome State Fault Refusal} {f : State → Host.Outcome State Fault Refusal}
    {t : State} (h : andThen o f = .next t) : ∃ s, o = .next s ∧ f s = .next t := by
  cases o with
  | next s => exact ⟨s, rfl, h⟩
  | fault e => cases h
  | refused e => cases h

/-! ### Lanes -/

@[simp] theorem Lanes.get_map {α β : Type} (f : α → β) (l : Lanes α) (k : SubPanel) (c : Colour) :
    (l.map f).get k c = f (l.get k c) := by
  cases k <;> cases c <;> rfl

@[simp] theorem answersOf_get (s : State) (k : SubPanel) (c : Colour) :
    (answersOf s).get k c = (answerOf s k).get c := by
  cases k <;> rfl

@[simp] theorem answersOf_sub (s : State) (k : SubPanel) : (answersOf s).sub k = answerOf s k := by
  cases k <;> rfl

/-! ### The constants of construction -/

/-- An entry of the built gamma table is the formula of 40 R111. -/
@[simp] theorem gammaTableOf_get (c : Config) (i : Nat) (h : i < 256) : (gammaTableOf c)[i] = gammaEntry c i := by
  simp [gammaTableOf]

@[simp] theorem waitSchedule_length (c : Config) : (waitSchedule c).length = c.planeCount := by
  simp [waitSchedule]

/-- An entry of the schedule is the formula of 42 R151. -/
theorem waitSchedule_get (c : Config) {p : Nat} (h : p < c.planeCount) :
    (waitSchedule c)[p]? = some (waitCycles c p) := by
  simp [waitSchedule, h]

theorem waitCycles_pos (c : Config) (p : Nat) : 0 < waitCycles c p :=
  Nat.two_pow_pos _

/-- A gamma entry has at most G bits (40 R112). -/
theorem gammaEntry_le (c : Config) {i : Nat} (h : i ≤ 255) : gammaEntry c i ≤ 2 ^ c.dstBits - 1 := by
  unfold gammaEntry
  have : i ^ c.gamma * (2 ^ c.dstBits - 1) ≤ 255 ^ c.gamma * (2 ^ c.dstBits - 1) :=
    Nat.mul_le_mul_right _ (Nat.pow_le_pow_left h _)
  calc i ^ c.gamma * (2 ^ c.dstBits - 1) / 255 ^ c.gamma
      ≤ 255 ^ c.gamma * (2 ^ c.dstBits - 1) / 255 ^ c.gamma := Nat.div_le_div_right this
    _ = 2 ^ c.dstBits - 1 := Nat.mul_div_cancel_left _ (Nat.pow_pos (by decide))

/-- What a built core reads from its gamma table. -/
theorem gammaRead_of_built {s : State} (h : Built s) (v : Byte) : gammaRead s v = gammaEntry s.cfg v.toNat := by
  simp [gammaRead, h.1]

/-- What a built core reads from its schedule, for every value of the bit-plane. -/
theorem scheduleEntry_of_built {s : State} (h : Built s) : scheduleEntry s = waitCycles s.cfg s.seq.bitPlane := by
  unfold scheduleEntry
  rw [h.2]
  by_cases hp : s.seq.bitPlane < s.cfg.planeCount
  · simp [planOf, waitSchedule_get _ hp]
  · simp [planOf, waitSchedule, hp]

/-! ### Reset -/

/-- Reset registers are reset registers. -/
@[simp] theorem State.resetRegisters_twice (s : State) : s.resetRegisters.resetRegisters = s.resetRegisters := rfl

/-- Asserting reset again has no further effect (60 R227). -/
@[simp] theorem State.assertReset_twice (s : State) : s.assertReset.assertReset = s.assertReset := rfl

/-! ### Making a selector word -/

theorem counterFor_isZero (z : Bool) (v : Nat) : (counterFor z v == 0) = z := by
  cases z <;> cases v <;> rfl

theorem pixelFor_isLast (l : Bool) (last v : Nat) : (pixelFor l last v == last) = l := by
  cases l with
  | true => simp [pixelFor]
  | false =>
    simp only [pixelFor]
    by_cases h : v = last
    · subst h; by_cases h0 : v = 0
      · simp [h0]
      · simp [h0]; omega
    · simp [h]

/-- A counter that already is as wanted is kept. -/
theorem counterFor_kept (v : Nat) : counterFor (v == 0) v = v := by
  cases v <;> rfl

end Sys2Proof.Machine
end

