-- ==== Sys2Proof/Laws/Construction.lean ====
section
/-! SUPPORT. What admission and the checks of construction can answer, field by field and check by check. -/

namespace Sys2Proof.Machine

/-- A natural number is admitted as itself. -/
@[simp] theorem natField_cast (f : ConfigField) (n : Nat) : natField f (n : Rat) = .ok n := by
  simp [natField]

/-- A positive natural number is admitted as itself. -/
theorem posNatField_cast (f : ConfigField) {n : Nat} (h : 1 ≤ n) : posNatField f (n : Rat) = .ok n := by
  simp [posNatField]; omega

/-- A rational is a natural number or it is not. -/
theorem natural_or_not (q : Rat) : (∃ n : Nat, q = n) ∨ NotNatural q := by
  by_cases h : ∃ n : Nat, q = n
  · exact .inl h
  · exact .inr fun n hn => h ⟨n, hn⟩

/-- A rational with denominator 1 and a numerator that is not negative is a natural number. -/
theorem natural_of_den_one {q : Rat} (hd : q.den = 1) (hn : 0 ≤ q.num) : q = (q.num.toNat : Rat) := by
  have hnum : (q.num.toNat : Int) = q.num := Int.toNat_of_nonneg hn
  calc q = (q.num : Rat) := (Rat.coe_int_num_of_den_eq_one hd).symm
    _ = ((q.num.toNat : Int) : Rat) := by rw [hnum]
    _ = (q.num.toNat : Rat) := Int.cast_natCast _

/-- What `natField` refuses is no natural number, under the field's name. -/
theorem natField_of_notNatural (f : ConfigField) {q : Rat} (h : NotNatural q) : natField f q = .error f := by
  unfold natField
  split
  case isFalse => rfl
  case isTrue hq => exact absurd (natural_of_den_one hq.1 hq.2) (h _)

/-- What `posNatField` refuses is no positive natural number, under the field's name. -/
theorem posNatField_of_notPositive (f : ConfigField) {q : Rat} (h : NotNatural q ∨ q = 0) :
    posNatField f q = .error f := by
  rcases h with h | rfl
  · unfold posNatField
    split
    case isFalse => rfl
    case isTrue hq => exact absurd (natural_of_den_one hq.1 hq.2.le) (h _)
  · simp [posNatField]

/-- A floor that is absent or positive is admitted as it is. -/
theorem refreshFloorField_of_pos {q : Option Rat} (h : ∀ f, q = some f → 0 < f) : refreshFloorField q = .ok q := by
  cases q with
  | none => rfl
  | some f => simp [refreshFloorField, h f rfl]

/-- A request of well-typed fields is admitted as the configuration it asks for. -/
theorem admitRequest_requestOf {c : Config} (hg : 1 ≤ c.gamma) (hd : 1 ≤ c.dstBits) (hf : 0 ≤ c.clkFreq)
    (hr : ∀ f, c.refreshFloor = some f → 0 < f) : admitRequest (requestOf c) = .ok c := by
  simp [admitRequest, requestOf, posNatField_cast _ hg, posNatField_cast _ hd, srcBitsField, clkFreqField, hf,
    refreshFloorField_of_pos hr, blankWidthField]
  rfl

/-- CONFIG_VALIDATE on an admitted request: the first failing check, or the configuration. -/
theorem execConfigValidate_of_admitted {s : State} {c : Config} (h : admitRequest s.request = .ok c) :
    (∀ k, firstFailure c = some k → execConfigValidate s = .fault (.configError (checkCode k) k)) ∧
    (firstFailure c = none → execConfigValidate s = .next (s.withCfg c)) := by
  constructor
  · intro k hk
    simp only [execConfigValidate, h, hk]
  · intro hk
    simp only [execConfigValidate, h, hk]

/-- CONFIG_VALIDATE on a request that is not admitted. -/
theorem execConfigValidate_of_refused {s : State} {f : ConfigField} (h : admitRequest s.request = .error f) :
    execConfigValidate s = .refused (.unmodelled f) := by
  simp only [execConfigValidate, h]

/-- A power of two, as the check reads it. -/
theorem isPowerOfTwo_iff (b : Nat) : isPowerOfTwo b = true ↔ ∃ k, b = 2 ^ k := by
  constructor
  · intro h
    exact ⟨b.log2, (eq_of_beq h).symm⟩
  · rintro ⟨k, rfl⟩
    simp [isPowerOfTwo]

/-- The last check passes exactly when the floor is absent or met. -/
theorem refreshFloorMet_iff (c : Config) :
    refreshFloorMet c = true ↔ ∀ f, c.refreshFloor = some f → f ≤ refreshRateOf c := by
  unfold refreshFloorMet
  cases c.refreshFloor <;> simp

/-- No check fails exactly when all eight pass. -/
theorem firstFailure_eq_none (c : Config) : firstFailure c = none ↔ ∀ k, checkPasses c k = true := by
  constructor
  · intro h k
    have := List.find?_eq_none.1 h k (by cases k <;> simp [checkOrder])
    simpa using this
  · intro h
    exact List.find?_eq_none.2 fun k _ => by simp [h k]

/-! ### What admission asks -/

/-- A sequence of admissions that succeeds: its first one did, and then the rest. -/
theorem except_bind_eq_ok {α β : Type} {x : Except ConfigField α} {g : α → Except ConfigField β} {b : β}
    (h : (x >>= g) = .ok b) : ∃ a, x = .ok a ∧ g a = .ok b := by
  cases x with
  | error f => cases h
  | ok a => exact ⟨a, rfl, h⟩

/-- A sequence of admissions refuses when its first one does, or when the rest does. -/
theorem except_bind_error {α β : Type} (x : Except ConfigField α) (g : α → Except ConfigField β) (p : Prop)
    (h : ∀ a, x = .ok a → ((∃ f, g a = .error f) ↔ p)) :
    (∃ f, (x >>= g) = .error f) ↔ (∃ f, x = .error f) ∨ p := by
  cases x with
  | error f => simp [bind, Except.bind]
  | ok a => simpa [bind, Except.bind] using h a rfl

theorem natField_error (f : ConfigField) (q : Rat) : (∃ e, natField f q = .error e) ↔ NotNatural q := by
  rcases natural_or_not q with ⟨n, rfl⟩ | h
  · simp [NotNatural]
  · simp [natField_of_notNatural f h, h]

theorem posNatField_error (f : ConfigField) (q : Rat) :
    (∃ e, posNatField f q = .error e) ↔ NotNatural q ∨ q = 0 := by
  by_cases h : NotNatural q ∨ q = 0
  · simp [posNatField_of_notPositive f h, h]
  · rcases natural_or_not q with ⟨m, rfl⟩ | hn
    · have hm : 1 ≤ m := by
        rcases Nat.eq_zero_or_pos m with rfl | hm
        · simp at h
        · exact hm
      simpa [posNatField_cast f hm] using h
    · exact absurd (.inl hn) h

theorem srcBitsField_error (q : Rat) : (∃ e, srcBitsField q = .error e) ↔ q ≠ 8 := by
  unfold srcBitsField
  split <;> simp [*]

theorem clkFreqField_error (q : Rat) : (∃ e, clkFreqField q = .error e) ↔ q < 0 := by
  unfold clkFreqField
  split <;> simp_all

theorem refreshFloorField_error (q : Option Rat) :
    (∃ e, refreshFloorField q = .error e) ↔ ∃ f, q = some f ∧ f ≤ 0 := by
  cases q with
  | none => simp [refreshFloorField]
  | some f =>
    simp only [refreshFloorField]
    split <;> simp_all

theorem blankWidthField_error (p t : Nat) (q : Option Rat) :
    (∃ e, blankWidthField p t q = .error e) ↔ ∃ w, q = some w ∧ NotNatural w := by
  cases q with
  | none => simp [blankWidthField]
  | some w => simp [blankWidthField, natField_error]

/-- An admitted configuration has the types of 00 R8. -/
theorem admitRequest_eq_ok {r : Request} {c : Config} (h : admitRequest r = .ok c) :
    1 ≤ c.gamma ∧ 1 ≤ c.dstBits ∧ 0 ≤ c.clkFreq ∧ ∀ f, c.refreshFloor = some f → 0 < f := by
  unfold admitRequest at h
  obtain ⟨n, -, h⟩ := except_bind_eq_ok h
  obtain ⟨b, -, h⟩ := except_bind_eq_ok h
  obtain ⟨p, -, h⟩ := except_bind_eq_ok h
  obtain ⟨d, -, h⟩ := except_bind_eq_ok h
  obtain ⟨t, -, h⟩ := except_bind_eq_ok h
  obtain ⟨gam, hgam, h⟩ := except_bind_eq_ok h
  obtain ⟨_, -, h⟩ := except_bind_eq_ok h
  obtain ⟨g, hg, h⟩ := except_bind_eq_ok h
  obtain ⟨f, hf, h⟩ := except_bind_eq_ok h
  obtain ⟨fl, hfl, h⟩ := except_bind_eq_ok h
  obtain ⟨w, -, h⟩ := except_bind_eq_ok h
  cases h
  have pos : ∀ {k q m}, posNatField k q = .ok m → 1 ≤ m := by
    intro k q m hm
    unfold posNatField at hm
    split at hm
    · cases hm; omega
    · cases hm
  refine ⟨pos hgam, pos hg, ?_, ?_⟩
  · unfold clkFreqField at hf
    split at hf
    · cases hf; assumption
    · cases hf
  · unfold refreshFloorField at hfl
    split at hfl
    · cases hfl; simp
    · split at hfl
      · cases hfl; simpa
      · cases hfl

/-- What the eight checks ask (60 R222). -/
theorem checks_of_firstFailure_eq_none {c : Config} (h : firstFailure c = none) :
    1 ≤ c.chainLength ∧ (∃ k, c.bankCount = 2 ^ k) ∧ 1 ≤ c.planeCount ∧ 1 ≤ c.clkDelay ∧ 0 < c.clkFreq ∧
    c.planeCount - 1 + c.shortestTimeslot ≤ c.blankCounterWidth ∧
    ∀ f, c.refreshFloor = some f → f ≤ refreshRateOf c := by
  rw [firstFailure_eq_none] at h
  have hN := h .gChain
  have hB := h .gBankPow2
  have hP := h .tPlanes
  have hD := h .tDelay
  have hF := h .tFreq
  have hW := h .tBlankWidth
  have hR := h .tRefresh
  simp only [checkPasses, decide_eq_true_eq] at hN hB hP hD hF hW hR
  refine ⟨hN, (isPowerOfTwo_iff _).1 hB, hP, hD, hF, ?_, (refreshFloorMet_iff c).1 hR⟩
  have h1 := Nat.two_pow_pos (c.planeCount - 1 + c.shortestTimeslot)
  have h2 := Nat.two_pow_pos c.blankCounterWidth
  exact (Nat.pow_le_pow_iff_right (by decide : 1 < 2)).1 (by omega)

/-- An admitted configuration that passes every check is valid. -/
theorem validConfig_of_admitted {r : Request} {c : Config} (ha : admitRequest r = .ok c)
    (hf : firstFailure c = none) : ValidConfig c := by
  obtain ⟨hN, hB, hP, hD, hF, hW, hR⟩ := checks_of_firstFailure_eq_none hf
  obtain ⟨hg, hG, -, hfl⟩ := admitRequest_eq_ok ha
  exact ⟨hN, hB, hP, hD, hF, hW, fun f h => ⟨hfl f h, hR f h⟩, hg, hG⟩

/-- A valid configuration passes every check. -/
theorem firstFailure_of_valid {c : Config} (h : ValidConfig c) : firstFailure c = none := by
  obtain ⟨hN, hB, hP, hD, hF, hW, hR, -, -⟩ := h
  have hB1 : 1 ≤ c.bankCount := by
    obtain ⟨k, hk⟩ := hB
    rw [hk]
    exact Nat.one_le_two_pow
  rw [firstFailure_eq_none]
  intro k
  cases k <;> simp only [checkPasses, decide_eq_true_eq]
  · exact hN
  · exact hB1
  · exact (isPowerOfTwo_iff _).2 hB
  · exact hP
  · exact hD
  · exact hF
  · exact Nat.sub_le_sub_right (Nat.pow_le_pow_right (by decide) hW) 1
  · exact (refreshFloorMet_iff c).2 fun f hf => (hR f hf).2

end Sys2Proof.Machine
end

