-- ==== Sys2Proof/Laws/Decode.lean ====
section
/-! SUPPORT. What the decoder answers, by the fields of the selector word: one lemma per row of 30_encoding.md R100,
for every value of the bits the row does not test. -/

namespace Sys2Proof.Machine

/-- Every word is the packing of its own fields. -/
theorem packSelector_fields (w : Word) :
    packSelector (w.extractLsb' 5 3) (w.getLsbD 4) (w.getLsbD 3) (w.getLsbD 2) (w.getLsbD 1) (w.getLsbD 0) = w := by
  revert w; decide

theorem stateCode_stateOfCode (c : BitVec 3) : stateCode (stateOfCode c) = c := by
  revert c; decide

@[simp] theorem stateOfCode_stateCode (q : SeqState) : stateOfCode (stateCode q) = q := by
  cases q <;> decide

/-- The step-arm map as one case analysis: which arm the packed fields select. -/
def armOf (q : SeqState) (dz sc pl bz pz : Bool) : Instr :=
  match q, dz, sc, pl, bz, pz with
  | .idle, _, _, _, _, _ => .idle
  | .shiftOut, false, _, _, _, _ => .shiftWait
  | .shiftOut, true, false, _, _, _ => .shiftRise
  | .shiftOut, true, true, false, _, _ => .shiftFall
  | .shiftOut, true, true, true, _, _ => .shiftLast
  | .latchPre, false, _, _, _, _ => .latchPreWait
  | .latchPre, true, _, _, _, _ => .latchPreEnd
  | .latch, false, _, _, _, _ => .latchWait
  | .latch, true, _, _, _, _ => .latchEnd
  | .latchPost, false, _, _, _, _ => .latchPostWait
  | .latchPost, true, _, _, _, _ => .latchPostEnd
  | .blank, _, _, _, false, _ => .blankWait
  | .blank, _, _, _, true, false => .blankEndPlane
  | .blank, _, _, _, true, true => .blankEndBank
  | .reserved110, _, _, _, _, _ => .reservedState
  | .reserved111, _, _, _, _, _ => .reservedState

/-- The decoder reads from a packed word the arm of its fields. -/
theorem decode_packSelector (q : SeqState) (dz sc pl bz pz : Bool) :
    decode (packSelector (stateCode q) dz sc pl bz pz) = some (armOf q dz sc pl bz pz) := by
  revert dz sc pl bz pz
  cases q <;> decide

/-- The decoder reads from a state's selector word the arm of its condition bits. -/
theorem decode_selectorWord (s : State) :
    decode (selectorWord s) =
      some (armOf s.seq.state (condDZ s) (condSC s) (condPL s) (condBZ s) (condPZ s)) :=
  decode_packSelector ..

end Sys2Proof.Machine
end

