-- ==== Sys2Proof/Laws/PerInstr.lean ====
section
/-! SUPPORT. A statement about every instruction as syntax, one lemma per constructor: an instruction is selected by
some word exactly when it is well-formed (30_encoding.md R93, R94). -/

/-- The instruction is selected by some selector word if it is well-formed, and by none if it is not. -/
def Sys2Proof.Laws.Selected.Statement (i : Sys2Proof.Instr) : Prop :=
  (i.wf = true → ∃ w : Sys2Proof.Word, Sys2Proof.decode w = some i) ∧
  (i.wf = false → ∀ w : Sys2Proof.Word, Sys2Proof.decode w ≠ some i)

theorem Sys2Proof.Laws.Selected.idle : Sys2Proof.Laws.Selected.Statement .idle :=
  ⟨fun _ => ⟨0x00, by decide⟩, fun h => by cases h⟩

theorem Sys2Proof.Laws.Selected.shiftWait : Sys2Proof.Laws.Selected.Statement .shiftWait :=
  ⟨fun _ => ⟨0x20, by decide⟩, fun h => by cases h⟩

theorem Sys2Proof.Laws.Selected.shiftRise : Sys2Proof.Laws.Selected.Statement .shiftRise :=
  ⟨fun _ => ⟨0x30, by decide⟩, fun h => by cases h⟩

theorem Sys2Proof.Laws.Selected.shiftFall : Sys2Proof.Laws.Selected.Statement .shiftFall :=
  ⟨fun _ => ⟨0x38, by decide⟩, fun h => by cases h⟩

theorem Sys2Proof.Laws.Selected.shiftLast : Sys2Proof.Laws.Selected.Statement .shiftLast :=
  ⟨fun _ => ⟨0x3C, by decide⟩, fun h => by cases h⟩

theorem Sys2Proof.Laws.Selected.latchPreWait : Sys2Proof.Laws.Selected.Statement .latchPreWait :=
  ⟨fun _ => ⟨0x40, by decide⟩, fun h => by cases h⟩

theorem Sys2Proof.Laws.Selected.latchPreEnd : Sys2Proof.Laws.Selected.Statement .latchPreEnd :=
  ⟨fun _ => ⟨0x50, by decide⟩, fun h => by cases h⟩

theorem Sys2Proof.Laws.Selected.latchWait : Sys2Proof.Laws.Selected.Statement .latchWait :=
  ⟨fun _ => ⟨0x60, by decide⟩, fun h => by cases h⟩

theorem Sys2Proof.Laws.Selected.latchEnd : Sys2Proof.Laws.Selected.Statement .latchEnd :=
  ⟨fun _ => ⟨0x70, by decide⟩, fun h => by cases h⟩

theorem Sys2Proof.Laws.Selected.latchPostWait : Sys2Proof.Laws.Selected.Statement .latchPostWait :=
  ⟨fun _ => ⟨0x80, by decide⟩, fun h => by cases h⟩

theorem Sys2Proof.Laws.Selected.latchPostEnd : Sys2Proof.Laws.Selected.Statement .latchPostEnd :=
  ⟨fun _ => ⟨0x90, by decide⟩, fun h => by cases h⟩

theorem Sys2Proof.Laws.Selected.blankWait : Sys2Proof.Laws.Selected.Statement .blankWait :=
  ⟨fun _ => ⟨0xA0, by decide⟩, fun h => by cases h⟩

theorem Sys2Proof.Laws.Selected.blankEndPlane : Sys2Proof.Laws.Selected.Statement .blankEndPlane :=
  ⟨fun _ => ⟨0xA2, by decide⟩, fun h => by cases h⟩

theorem Sys2Proof.Laws.Selected.blankEndBank : Sys2Proof.Laws.Selected.Statement .blankEndBank :=
  ⟨fun _ => ⟨0xA3, by decide⟩, fun h => by cases h⟩

theorem Sys2Proof.Laws.Selected.reservedState : Sys2Proof.Laws.Selected.Statement .reservedState :=
  ⟨fun _ => ⟨0xC0, by decide⟩, fun h => by cases h⟩

theorem Sys2Proof.Laws.Selected.gammaLookup : Sys2Proof.Laws.Selected.Statement .gammaLookup :=
  ⟨fun h => (by cases h), fun _ => by decide⟩

theorem Sys2Proof.Laws.Selected.laneBit : Sys2Proof.Laws.Selected.Statement .laneBit :=
  ⟨fun h => (by cases h), fun _ => by decide⟩

theorem Sys2Proof.Laws.Selected.outputRegister : Sys2Proof.Laws.Selected.Statement .outputRegister :=
  ⟨fun h => (by cases h), fun _ => by decide⟩

theorem Sys2Proof.Laws.Selected.gammaBuild : Sys2Proof.Laws.Selected.Statement .gammaBuild :=
  ⟨fun h => (by cases h), fun _ => by decide⟩

theorem Sys2Proof.Laws.Selected.planWait : Sys2Proof.Laws.Selected.Statement .planWait :=
  ⟨fun h => (by cases h), fun _ => by decide⟩

theorem Sys2Proof.Laws.Selected.planIoFreq : Sys2Proof.Laws.Selected.Statement .planIoFreq :=
  ⟨fun h => (by cases h), fun _ => by decide⟩

theorem Sys2Proof.Laws.Selected.planTransferTime : Sys2Proof.Laws.Selected.Statement .planTransferTime :=
  ⟨fun h => (by cases h), fun _ => by decide⟩

theorem Sys2Proof.Laws.Selected.planFrameTime : Sys2Proof.Laws.Selected.Statement .planFrameTime :=
  ⟨fun h => (by cases h), fun _ => by decide⟩

theorem Sys2Proof.Laws.Selected.configValidate : Sys2Proof.Laws.Selected.Statement .configValidate :=
  ⟨fun h => (by cases h), fun _ => by decide⟩
end

