-- ==== Sys2Proof/Laws/Step.lean ====
section
/-! SUPPORT. What a step can do, said once: the combinational work of a cycle, the arm that follows it, and the cases
of a host action. -/

namespace Sys2Proof.Machine

/-- The state after the combinational work of a cycle: pins, signals and colour source have moved on, the sequencer
registers and the constants are as they were. -/
def combined (s : State) : State :=
  besideArm s s

@[simp] theorem combined_seq (s : State) : (combined s).seq = s.seq := rfl
@[simp] theorem combined_cfg (s : State) : (combined s).cfg = s.cfg := rfl
@[simp] theorem combined_plan (s : State) : (combined s).plan = s.plan := rfl
@[simp] theorem combined_gammaTable (s : State) : (combined s).gammaTable = s.gammaTable := rfl
@[simp] theorem combined_request (s : State) : (combined s).request = s.request := rfl
@[simp] theorem combined_resetLine (s : State) : (combined s).resetLine = s.resetLine := rfl
@[simp] theorem combined_host (s : State) : (combined s).host = s.host := rfl
@[simp] theorem combined_out (s : State) : (combined s).out = nextPins s := rfl
@[simp] theorem combined_sig (s : State) : (combined s).sig = nextSignals s := rfl

/-- The three combinational rows always complete, and do what 43 R187 and R190 say. -/
theorem combinational_eq (s : State) : combinational s = .next (combined s) := by
  simp only [combinational, exec, execGammaLookup, execLaneBit, execOutputRegister, andThen_next]
  have h1 : ∀ q : SeqState, (q == SeqState.latch) = decide (q = .latch) := by intro q; cases q <;> rfl
  have h2 : ∀ q : SeqState, (!(q == SeqState.blank)) = decide (q ≠ .blank) := by intro q; cases q <;> rfl
  simp only [State.withOut, decisions, stbDecision, oeDecision, h1, h2]
  rfl

/-- A running machine's step is a clock edge: the arm its condition bits select, on the combined state. -/
theorem step_of_running {s : State} (h : Running s) :
    step s =
      exec (armOf s.seq.state (condDZ s) (condSC s) (condPL s) (condBZ s) (condPZ s)) (combined s) := by
  obtain ⟨hr, hh⟩ := h
  simp [step, nextEvent, hh, clockEdge, hr, decode_selectorWord, combinational_eq]

/-- Under reset a clock edge leaves the registers at their reset values and does nothing else (60 R228). -/
theorem clockEdge_of_reset {s : State} (h : s.resetLine = true) : clockEdge s = .next s.resetRegisters := by
  simp [clockEdge, h]

/-- The cases of a step that answers a next state: a clock edge under reset, a clock edge that runs the selected arm,
or one of the host's actions. -/
theorem step_cases {s t : State} (h : step s = .next t) :
    (∃ u rest, (s.host = .clock :: rest ∧ u = s.withHost rest ∨ s.host = [] ∧ u = s) ∧
      (u.resetLine = true ∧ t = u.resetRegisters ∨
       u.resetLine = false ∧
        exec (armOf u.seq.state (condDZ u) (condSC u) (condPL u) (condBZ u) (condPZ u)) (combined u) = .next t)) ∨
    (∃ r rest, s.host = .construct r :: rest ∧ s.resetLine = true ∧ construct r (s.withHost rest) = .next t) ∨
    (∃ src rest, s.host = .connect src :: rest ∧ t = (s.withHost rest).withSource src) ∨
    (∃ rest, s.host = .assertReset :: rest ∧ t = (s.withHost rest).assertReset) ∨
    (∃ rest, s.host = .releaseReset :: rest ∧ t = (s.withHost rest).releaseReset) := by
  have edge : ∀ u : State, clockEdge u = .next t →
      (u.resetLine = true ∧ t = u.resetRegisters ∨
       u.resetLine = false ∧
        exec (armOf u.seq.state (condDZ u) (condSC u) (condPL u) (condBZ u) (condPZ u)) (combined u) = .next t) := by
    intro u hu
    cases hr : u.resetLine with
    | true => rw [clockEdge_of_reset hr] at hu; cases hu; exact .inl ⟨rfl, rfl⟩
    | false =>
      refine .inr ⟨rfl, ?_⟩
      simpa [clockEdge, hr, decode_selectorWord, combinational_eq] using hu
  cases hh : s.host with
  | nil =>
    refine .inl ⟨s, [], .inr ⟨rfl, rfl⟩, edge s ?_⟩
    simpa [step, nextEvent, hh] using h
  | cons a rest =>
    have ha : hostAct a (s.withHost rest) = .next t := by simpa [step, nextEvent, hh] using h
    cases a with
    | construct r =>
      refine .inr (.inl ⟨r, rest, rfl, ?_⟩)
      cases hr : s.resetLine with
      | true => exact ⟨rfl, by simpa [hostAct, hr] using ha⟩
      | false => simp [hostAct, hr] at ha
    | connect src =>
      refine .inr (.inr (.inl ⟨src, rest, rfl, ?_⟩))
      simpa [hostAct] using ha.symm
    | assertReset =>
      refine .inr (.inr (.inr (.inl ⟨rest, rfl, ?_⟩)))
      simpa [hostAct] using ha.symm
    | releaseReset =>
      refine .inr (.inr (.inr (.inr ⟨rest, rfl, ?_⟩)))
      simpa [hostAct] using ha.symm
    | clock =>
      exact .inl ⟨s.withHost rest, rest, .inl ⟨rfl, rfl⟩, edge _ (by simpa [hostAct] using ha)⟩

/-- No cycle. -/
@[simp] theorem cycles_zero (s : State) : cycles 0 s = .next s := rfl

/-- One step, then the rest. -/
theorem cycles_succ (n : Nat) (s : State) : cycles (n + 1) s = andThen (step s) (cycles n) := rfl

/-- `cycles` is the host's `run` of the machine. -/
theorem cycles_eq_run (n : Nat) (s : State) : cycles n s = Sys2Proof.core.run n s := by
  induction n generalizing s with
  | zero => rfl
  | succ n ih =>
    have hs : Sys2Proof.core.step s = step s := rfl
    cases h : step s with
    | next t => rw [h] at hs; simp only [cycles_succ, Host.Core.run, hs, h, andThen_next, ih]; rfl
    | fault e => rw [h] at hs; simp only [cycles_succ, Host.Core.run, hs, h, andThen_fault]; rfl
    | refused e => rw [h] at hs; simp only [cycles_succ, Host.Core.run, hs, h, andThen_refused]; rfl

/-- The first m cycles, then n more. -/
theorem cycles_add (m n : Nat) (s : State) : cycles (m + n) s = andThen (cycles m s) (cycles n) := by
  induction m generalizing s with
  | zero => simp
  | succ m ih =>
    rw [Nat.add_right_comm, cycles_succ, cycles_succ]
    cases step s with
    | next t => exact ih t
    | fault e => rfl
    | refused e => rfl

/-- A construction that answers a next state was admitted and passed every check, and built the core of what was
admitted. -/
theorem construct_eq_next {r : Request} {s t : State} (h : construct r s = .next t) :
    ∃ c, admitRequest r = .ok c ∧ firstFailure c = none ∧ t = constructed s r c := by
  obtain ⟨s1, h1, h⟩ := andThen_eq_next h
  simp only [exec, execConfigValidate, State.withRequest_request] at h1
  cases hc : admitRequest r with
  | error f => rw [hc] at h1; cases h1
  | ok c =>
    rw [hc] at h1
    cases hf : firstFailure c with
    | some k => simp only [hf] at h1; cases h1
    | none =>
      simp only [hf] at h1
      cases h1
      refine ⟨c, rfl, hf, ?_⟩
      simp only [exec, execGammaBuild, execPlanWait, execPlanIoFreq, execPlanTransferTime, execPlanFrameTime,
        andThen_next] at h
      cases h
      rfl

end Sys2Proof.Machine
end

