-- ==== Sys2Proof/Laws/Sequencer.lean ====
section
/-! SUPPORT. The step of a running machine as one equation: either the reserved arm refuses, or the sequencer
registers become `nextSeq` and the output stage of the cycle acts. -/

namespace Sys2Proof.Machine

/-- The sequencer registers the selected step arm writes, by the state and the conditions of 30 R100. On a reserved
code, where no arm writes anything, the registers as they are. -/
def nextSeq (s : State) : SeqRegs :=
  let timed (r : SeqRegs) : SeqRegs :=
    if s.seq.delayCounter = 0 then r else { s.seq with delayCounter := s.seq.delayCounter - 1 }
  match s.seq.state with
  | .idle => { s.seq with pixelIndex := 0, delayCounter := s.cfg.clkDelay - 1, sclk := false, state := .shiftOut }
  | .shiftOut => timed <|
    if s.seq.sclk = false then { s.seq with delayCounter := s.cfg.clkDelay - 1, sclk := true }
    else if s.seq.pixelIndex = s.cfg.chainLength - 1 then
      { s.seq with delayCounter := s.cfg.clkDelay - 1, sclk := false, pixelIndex := 0, state := .latchPre }
    else { s.seq with delayCounter := s.cfg.clkDelay - 1, sclk := false, pixelIndex := s.seq.pixelIndex + 1 }
  | .latchPre => timed { s.seq with delayCounter := s.cfg.clkDelay - 1, state := .latch }
  | .latch => timed { s.seq with delayCounter := s.cfg.clkDelay - 1, state := .latchPost }
  | .latchPost => timed
    { s.seq with blankCounter := blankReload s, delayCounter := s.cfg.clkDelay - 1, state := .blank }
  | .blank =>
    if s.seq.blankCounter ≠ 0 then { s.seq with blankCounter := s.seq.blankCounter - 1 }
    else if s.seq.bitPlane = 0 then
      { s.seq with
        bank := (s.seq.bank + 1) % s.cfg.bankCount
        bitPlane := s.cfg.planeCount - 1
        state := .idle }
    else { s.seq with bitPlane := s.seq.bitPlane - 1, state := .idle }
  | .reserved110 => s.seq
  | .reserved111 => s.seq

/-- A step arm commutes with the combinational work of the cycle (20 R83). -/
theorem exec_combined {s : State} {i : Instr} (h : i.wf = true) :
    exec i (combined s) = andThen (exec i s) fun t => .next (besideArm s t) := by
  cases i <;> first | rfl | cases h

/-- What a selector word can select is well-formed. -/
theorem armOf_wf (q : SeqState) (dz sc pl bz pz : Bool) : (armOf q dz sc pl bz pz).wf = true := by
  cases q <;> cases dz <;> cases sc <;> cases pl <;> cases bz <;> cases pz <;> rfl

/-- The arm that a state selects writes `nextSeq`. -/
theorem exec_selected {s : State} (h : s.seq.state.isReserved = false) :
    exec (armOf s.seq.state (condDZ s) (condSC s) (condPL s) (condBZ s) (condPZ s)) s =
      .next { s with seq := nextSeq s } := by
  have hdz : (condDZ s = true) ↔ s.seq.delayCounter = 0 := by simp [condDZ]
  have hpl : (condPL s = true) ↔ s.seq.pixelIndex = s.cfg.chainLength - 1 := by simp [condPL]
  have hbz : (condBZ s = true) ↔ s.seq.blankCounter = 0 := by simp [condBZ]
  have hpz : (condPZ s = true) ↔ s.seq.bitPlane = 0 := by simp [condPZ]
  have hsc : condSC s = s.seq.sclk := rfl
  unfold nextSeq
  generalize condDZ s = dz at *
  generalize condSC s = sc at *
  generalize condPL s = pl at *
  generalize condBZ s = bz at *
  generalize condPZ s = pz at *
  cases hq : s.seq.state with
  | reserved110 => simp [hq, SeqState.isReserved] at h
  | reserved111 => simp [hq, SeqState.isReserved] at h
  | idle => rfl
  | shiftOut =>
    cases dz <;> cases sc <;> cases pl <;> simp at hdz hpl <;> simp [hdz, hpl, ← hsc] <;>
      simp [armOf, exec, execShiftWait, execShiftRise, execShiftFall, execShiftLast, delayReload, pixelSuccessor,
        State.withSeq, hpl, ← hsc]
  | blank =>
    cases bz <;> cases pz <;> simp at hbz hpz <;> simp [hbz, hpz] <;>
      simp [armOf, exec, execBlankWait, execBlankEndPlane, execBlankEndBank, State.withSeq, bankSuccessor,
        planeReload, hbz, hpz]
  | latchPre =>
    cases dz <;> simp at hdz <;> simp [hdz] <;>
      simp [armOf, exec, execLatchPreWait, execLatchPreEnd, State.withSeq, delayReload]
  | latch =>
    cases dz <;> simp at hdz <;> simp [hdz] <;>
      simp [armOf, exec, execLatchWait, execLatchEnd, State.withSeq, delayReload]
  | latchPost =>
    cases dz <;> simp at hdz <;> simp [hdz] <;>
      simp [armOf, exec, execLatchPostWait, execLatchPostEnd, State.withSeq, delayReload]

/-- The step of a running machine outside the reserved codes. -/
theorem step_eq_nextSeq {s : State} (hr : Running s) (h : s.seq.state.isReserved = false) :
    step s = .next (besideArm s { s with seq := nextSeq s }) := by
  rw [step_of_running hr, exec_combined (armOf_wf ..), exec_selected h]
  rfl

/-- A running machine with a reserved code refuses. -/
theorem step_of_reserved {s : State} (hr : Running s) (h : s.seq.state.isReserved = true) :
    step s = .refused .unreachableState := by
  rw [step_of_running hr]
  cases hq : s.seq.state <;> rw [hq] at h <;> first | rfl | cases h

/-- The one next state a running machine can have. -/
theorem step_eq_next_of_running {s t : State} (hr : Running s) (h : step s = .next t) :
    s.seq.state.isReserved = false ∧ t = besideArm s { s with seq := nextSeq s } := by
  cases hq : s.seq.state.isReserved with
  | false =>
    rw [step_eq_nextSeq hr hq] at h
    cases h
    exact ⟨rfl, rfl⟩
  | true =>
    rw [step_of_reserved hr hq] at h
    cases h

end Sys2Proof.Machine
end

