-- ==== Sys2Proof/Tests/Slice0.lean ====
section
/-! SUPPORT. The model's own tests, with expected results from 95_test_vectors.md and from the rules named, and for
every statement with hypotheses a witness that meets them. -/

namespace Sys2Proof.Tests

open Sys2Proof Sys2Proof.Machine

/-! ## Small cores -/

/-- The core that construction makes of c, with these sequencer registers. -/
def core (c : Config) (r : SeqRegs) : State :=
  { State.reset with cfg := c, gammaTable := gammaTableOf c, plan := planOf c, seq := r }

/-- The configuration of program P1 (95 section 3). -/
def p1 : Config :=
  { Config.reference with
    chainLength := 2
    bankCount := 2
    planeCount := 2
    clkDelay := 1
    shortestTimeslot := 0
    dstBits := 2
    clkFreq := 1000000
    blankCounterWidth := 1 }

/-- The configuration of program P2 (95 section 3). -/
def p2 : Config :=
  { Config.reference with
    chainLength := 1
    bankCount := 1
    planeCount := 1
    clkDelay := 2
    shortestTimeslot := 1
    clkFreq := 1000000
    blankCounterWidth := 1 }

/-- Six planes over a gamma table of four bits (95 section 2.2). -/
def narrow : Config :=
  { Config.reference with planeCount := 6, dstBits := 4 }

/-- The reference core with these registers and these answers in the next cycle. -/
def answered (r : SeqRegs) (a : Lanes Byte) : State :=
  { refState r with source := .sequence [a] }

/-- The reference core about to take one action of the host. -/
def hosted (asserted : Bool) (a : HostAction) : State :=
  { State.reset with resetLine := asserted, host := [a] }

/-- The state that asks for a configuration, changed from the reference request. -/
def asking (r : Request) : State :=
  { State.reset with request := r }

/-! ## Well-formedness: what no selector word can select (30 R94) -/

theorem test_wf_refuses_gammaLookup : Instr.wf .gammaLookup = false := by decide
theorem test_wf_refuses_configValidate : Instr.wf .configValidate = false := by decide
theorem test_encode_refuses_laneBit : encode .laneBit 0xFF = none := by decide
theorem test_wf_admits_reservedState : Instr.wf .reservedState = true := by decide

/-! ## Decoding: words of 95 section 2.5, bit by bit, state code first, then DZ SC PL BZ PZ -/

theorem test_decode_idle : decode 0b000_0_0_0_0_0 = some .idle ∧ decode 0b000_1_1_1_1_1 = some .idle := by decide
theorem test_decode_shiftWait : decode 0b001_0_0_1_1_1 = some .shiftWait ∧ decode 0b001_0_1_1_1_1 = some .shiftWait := by decide
theorem test_decode_shiftRise : decode 0b001_1_0_0_0_0 = some .shiftRise ∧ decode 0b001_1_0_1_1_1 = some .shiftRise := by decide
theorem test_decode_shiftFall : decode 0b001_1_1_0_0_0 = some .shiftFall ∧ decode 0b001_1_1_0_1_1 = some .shiftFall := by decide
theorem test_decode_shiftLast : decode 0b001_1_1_1_0_0 = some .shiftLast ∧ decode 0b001_1_1_1_1_1 = some .shiftLast := by decide
theorem test_decode_latchPreWait : decode 0b010_0_1_1_1_1 = some .latchPreWait := by decide
theorem test_decode_latchPreEnd : decode 0b010_1_1_1_1_1 = some .latchPreEnd := by decide
theorem test_decode_latchWait : decode 0b011_0_0_0_0_0 = some .latchWait := by decide
theorem test_decode_latchEnd : decode 0b011_1_1_1_1_1 = some .latchEnd := by decide
theorem test_decode_latchPostWait : decode 0b100_0_0_0_0_0 = some .latchPostWait := by decide
theorem test_decode_latchPostEnd : decode 0b100_1_1_1_1_1 = some .latchPostEnd := by decide
theorem test_decode_blankWait : decode 0b101_0_0_0_0_1 = some .blankWait ∧ decode 0b101_1_1_1_0_1 = some .blankWait := by decide
theorem test_decode_blankEndPlane : decode 0b101_0_0_0_1_0 = some .blankEndPlane ∧ decode 0b101_1_1_1_1_0 = some .blankEndPlane := by decide
theorem test_decode_blankEndBank : decode 0b101_0_0_0_1_1 = some .blankEndBank ∧ decode 0b101_1_1_1_1_1 = some .blankEndBank := by decide
theorem test_decode_reservedState : decode 0b110_0_0_0_0_0 = some .reservedState ∧ decode 0b111_1_1_1_1_1 = some .reservedState := by decide

/-- 30 R102: one word a cycle, no more and no less. -/
theorem test_decode_one_word : decodeBytes [] = .error .noWord ∧ decodeBytes [0x02, 0x22] = .error .moreThanOneWord ∧
    decodeBytes [0x22] = .ok .shiftWait := ⟨rfl, rfl, rfl⟩

theorem test_decodeTableWord : decodeTableWord 8 0x3C = some .shiftLast ∧ decodeTableWord 8 0x92 = some .latchPostEnd := by
  decide

/-- The word of a state, at the corners of 95 section 2.4. -/
theorem test_selectorWord : selectorWord (refState ⟨.shiftOut, 63, 0, 11, 1, 0, true⟩) = 0x2E ∧
    selectorWord (core p2 ⟨.blank, 0, 0, 0, 1, 0, false⟩) = 0xA7 := by decide

/-! ## The step arms: 95 section 2.4 -/

theorem test_idle_A1 : seqOf (step (refState ⟨.idle, 0, 0, 11, 3, 0, false⟩)) =
    some ⟨.shiftOut, 0, 0, 11, 3, 0, false⟩ := rfl
theorem test_idle_A22 : seqOf (step (core p1 ⟨.idle, 0, 0, 1, 0, 0, false⟩)) =
    some ⟨.shiftOut, 0, 0, 1, 0, 0, false⟩ := rfl
theorem test_shiftWait_A3 : seqOf (step (refState ⟨.shiftOut, 63, 0, 11, 1, 0, true⟩)) =
    some ⟨.shiftOut, 63, 0, 11, 0, 0, true⟩ := rfl
theorem test_shiftRise_A5 : seqOf (step (refState ⟨.shiftOut, 63, 0, 11, 0, 0, false⟩)) =
    some ⟨.shiftOut, 63, 0, 11, 3, 0, true⟩ := rfl
theorem test_shiftRise_A23 : seqOf (step (core p1 ⟨.shiftOut, 0, 0, 1, 0, 0, false⟩)) =
    some ⟨.shiftOut, 0, 0, 1, 0, 0, true⟩ := rfl
theorem test_shiftFall_A7 : seqOf (step (refState ⟨.shiftOut, 62, 0, 11, 0, 0, true⟩)) =
    some ⟨.shiftOut, 63, 0, 11, 3, 0, false⟩ := rfl
theorem test_shiftLast_A8 : seqOf (step (refState ⟨.shiftOut, 63, 0, 11, 0, 0, true⟩)) =
    some ⟨.latchPre, 0, 0, 11, 3, 0, false⟩ := rfl
theorem test_shiftLast_A26 : seqOf (step (core p2 ⟨.shiftOut, 0, 0, 0, 0, 0, true⟩)) =
    some ⟨.latchPre, 0, 0, 0, 1, 0, false⟩ := rfl
theorem test_latchPreWait_A9 : seqOf (step (refState ⟨.latchPre, 0, 0, 11, 3, 0, false⟩)) =
    some ⟨.latchPre, 0, 0, 11, 2, 0, false⟩ := rfl
theorem test_latchPreEnd_A10 : seqOf (step (refState ⟨.latchPre, 0, 0, 11, 0, 0, false⟩)) =
    some ⟨.latch, 0, 0, 11, 3, 0, false⟩ := rfl
theorem test_latchWait_A11 : seqOf (step (refState ⟨.latch, 0, 0, 11, 2, 0, false⟩)) =
    some ⟨.latch, 0, 0, 11, 1, 0, false⟩ := rfl
theorem test_latchEnd_A12 : seqOf (step (refState ⟨.latch, 0, 0, 11, 0, 0, false⟩)) =
    some ⟨.latchPost, 0, 0, 11, 3, 0, false⟩ := rfl
theorem test_latchPostWait_A13 : seqOf (step (refState ⟨.latchPost, 0, 0, 11, 1, 0, false⟩)) =
    some ⟨.latchPost, 0, 0, 11, 0, 0, false⟩ := rfl
theorem test_latchPostEnd_A15 : seqOf (step (refState ⟨.latchPost, 0, 4, 0, 0, 0, false⟩)) =
    some ⟨.blank, 0, 4, 0, 3, 7, false⟩ := rfl
theorem test_latchPostEnd_A24 : seqOf (step (core p1 ⟨.latchPost, 0, 0, 0, 0, 0, false⟩)) =
    some ⟨.blank, 0, 0, 0, 0, 0, false⟩ := rfl
theorem test_blankWait_A17 : seqOf (step (refState ⟨.blank, 0, 0, 0, 3, 1, false⟩)) =
    some ⟨.blank, 0, 0, 0, 3, 0, false⟩ := rfl
theorem test_blankEndPlane_A19 : seqOf (step (refState ⟨.blank, 0, 3, 1, 3, 0, false⟩)) =
    some ⟨.idle, 0, 3, 0, 3, 0, false⟩ := rfl
theorem test_blankEndBank_A20 : seqOf (step (refState ⟨.blank, 0, 3, 0, 3, 0, false⟩)) =
    some ⟨.idle, 0, 4, 11, 3, 0, false⟩ := rfl
theorem test_blankEndBank_A25 : seqOf (step (core p1 ⟨.blank, 0, 1, 0, 0, 0, false⟩)) =
    some ⟨.idle, 0, 0, 1, 0, 0, false⟩ := rfl

/-- 43 R185: both reserved codes. -/
theorem test_reservedState_refuses : step (refState ⟨.reserved110, 0, 0, 11, 3, 0, false⟩) = .refused .unreachableState ∧
    step (refState ⟨.reserved111, 0, 0, 11, 0, 0, true⟩) = .refused .unreachableState := ⟨rfl, rfl⟩

/-! ## Gamma, lanes, pins: 40 R115, 95 sections 2.1, 2.2, 2.6 -/

/-- The first half of the reference table (40 R115). -/
theorem test_gammaBuild_low : (List.range 128).map (gammaEntry Config.reference) =
      [0, 0, 0, 0, 0, 0, 0, 0, 0, 0, 0, 0, 0, 0, 0, 0] ++
      [0, 0, 0, 0, 0, 0, 0, 0, 0, 0, 0, 0, 0, 0, 0, 0] ++
      [0, 0, 0, 0, 0, 0, 0, 0, 0, 0, 0, 0, 0, 0, 0, 0] ++
      [0, 1, 1, 1, 1, 1, 1, 1, 2, 2, 2, 2, 2, 3, 3, 3] ++
      [4, 4, 4, 5, 5, 5, 6, 6, 7, 7, 8, 9, 9, 10, 10, 11] ++
      [12, 13, 14, 14, 15, 16, 17, 18, 20, 21, 22, 23, 25, 26, 27, 29] ++
      [30, 32, 34, 36, 37, 39, 41, 44, 46, 48, 50, 53, 55, 58, 61, 63] ++
      [66, 69, 73, 76, 79, 83, 86, 90, 94, 98, 102, 106, 111, 115, 120, 125] := by
  decide +kernel

/-- The second half of the reference table (40 R115). -/
theorem test_gammaBuild_high : (List.range 128).map (fun i => gammaEntry Config.reference (128 + i)) =
      [130, 135, 141, 146, 152, 158, 164, 170, 176, 183, 190, 197, 204, 211, 219, 227] ++
      [235, 243, 251, 260, 269, 278, 288, 298, 308, 318, 328, 339, 350, 362, 373, 385] ++
      [398, 410, 423, 437, 450, 464, 478, 493, 508, 523, 539, 555, 571, 588, 605, 623] ++
      [641, 659, 678, 697, 717, 737, 758, 779, 801, 823, 845, 868, 891, 915, 940, 965] ++
      [990, 1017, 1043, 1070, 1098, 1126, 1155, 1185, 1215, 1246, 1277, 1309, 1341, 1375, 1408, 1443] ++
      [1478, 1514, 1551, 1588, 1626, 1665, 1704, 1744, 1785, 1827, 1869, 1913, 1957, 2002, 2047, 2094] ++
      [2141, 2190, 2239, 2289, 2340, 2391, 2444, 2498, 2552, 2608, 2664, 2722, 2780, 2839, 2900, 2961] ++
      [3024, 3087, 3152, 3217, 3284, 3352, 3421, 3491, 3562, 3635, 3708, 3783, 3859, 3936, 4015, 4095] := by
  decide +kernel

/-- Other exponents and widths (95 section 2.1). -/
theorem test_gammaEntry_parameters : gammaEntry { p1 with dstBits := 2 } 204 = 0 ∧ gammaEntry p1 205 = 1 ∧
    gammaEntry p1 235 = 1 ∧ gammaEntry p1 236 = 2 ∧ gammaEntry p1 254 = 2 ∧ gammaEntry p1 255 = 3 ∧
    gammaEntry { p1 with dstBits := 1 } 254 = 0 ∧ gammaEntry { Config.reference with gamma := 1 } 128 = 2055 ∧
    gammaEntry { Config.reference with gamma := 2 } 128 = 1031 ∧
    gammaEntry { Config.reference with gamma := 3 } 128 = 517 := by decide +kernel

/-- 95 section 2.1. -/
theorem test_gammaLookup_reads : gammaRead State.reset 48 = 0 ∧ gammaRead State.reset 49 = 1 ∧
    gammaRead State.reset 200 = 1215 ∧ gammaRead State.reset 254 = 4015 := by decide +kernel

/-- 95 section 2.2: rows. -/
theorem test_rowIndex : rowIndex (refState ⟨.idle, 0, 15, 11, 3, 0, false⟩) .sub1 = 31 ∧
    rowIndex (refState ⟨.idle, 0, 5, 11, 3, 0, false⟩) .sub1 = 21 ∧
    rowIndex (core p2 ⟨.idle, 0, 0, 0, 1, 0, false⟩) .sub1 = 1 := by decide

/-- 95 section 2.2: GT[200] = 1215 in planes 0, 6, 10 and 11. -/
theorem test_laneBit_planes :
    [0, 6, 10, 11].map (fun p => planeBit (refState ⟨.shiftOut, 0, 0, p, 3, 0, false⟩) 1215) =
      [true, false, true, false] := by decide

/-- 95 section 2.2: with G = 4 and P = 6, plane 3 shows bit 3 of GT[255] = 15 and planes 4 and 5 show 0. -/
theorem test_laneBit_beyond_gamma :
    [3, 4, 5].map (fun p =>
      planeBit (core narrow ⟨.shiftOut, 0, 0, p, 3, 0, false⟩)
        (gammaRead (core narrow ⟨.shiftOut, 0, 0, p, 3, 0, false⟩) 255)) = [true, false, false] := by
  decide +kernel

/-- 95 section 2.6, ShiftOut: lanes 110111, clk 1. -/
theorem test_outputRegister_shiftOut :
    pinsOf (step (answered ⟨.shiftOut, 7, 2, 7, 0, 0, true⟩ ⟨⟨128, 200, 49⟩, ⟨255, 255, 255⟩⟩)) =
      some ⟨true, false, true, 2, ⟨⟨true, true, false⟩, ⟨true, true, true⟩⟩⟩ := by decide +kernel

/-- 95 section 2.6, Blank: lanes 111010, oe 0. -/
theorem test_outputRegister_blank :
    pinsOf (step (answered ⟨.blank, 0, 15, 3, 3, 40, false⟩ ⟨⟨200, 200, 200⟩, ⟨0, 255, 100⟩⟩)) =
      some ⟨false, false, false, 15, ⟨⟨true, true, true⟩, ⟨false, true, false⟩⟩⟩ := by decide +kernel

/-! ## The planner: 95 section 2.3 -/

theorem test_planWait_P1 : waitSchedule p1 = [1, 2] ∧ waitSchedule p2 = [2] := by decide
theorem test_planIoFreq : ioFreqOf p1 = 500000 ∧ ioFreqOf p2 = 250000 := by decide +kernel
theorem test_planTransferTime : transferTimeOf p1 = 3 / 500000 ∧ transferTimeOf p2 = 1 / 125000 := by decide +kernel
theorem test_planFrameTime : frameTimeOf p1 = 9 / 500000 ∧ frameTimeOf p2 = 1 / 100000 := by decide +kernel
theorem test_frameCycles : frameCycles p1 = 38 ∧ (List.range 2).map (planeCycles p1) = [9, 10] ∧
    frameCycles p2 = 13 := by decide

/-! ## Construction: 95 section 2.7 -/

/-- What CONFIG_VALIDATE ends in: no error, the number and name of a failed check, or the name of a refused field. -/
def verdictOf (s : State) : Option (Sum (Nat × CheckId) ConfigField) :=
  match exec .configValidate s with
  | .next _ => none
  | .fault (.configError e k) => some (.inl (e.number, k))
  | .refused (.unmodelled f) => some (.inr f)
  | .refused _ => none

/-- The same for a request. -/
def verdict (r : Request) : Option (Sum (Nat × CheckId) ConfigField) :=
  verdictOf (asking r)

/-- The rejected and refused rows of 95 section 2.7. -/
theorem test_configValidate_rejects :
    [verdict { Request.reference with chainLength := 0 },
     verdict { Request.reference with bankCount := 0 },
     verdict { Request.reference with bankCount := 12 },
     verdict { Request.reference with chainLength := 0, bankCount := 12 },
     verdict { Request.reference with planeCount := 0 },
     verdict { Request.reference with clkDelay := 0 },
     verdict { Request.reference with clkFreq := 0 },
     verdict { Request.reference with blankCounterWidth := some 13 },
     verdict { Request.reference with planeCount := 13, blankCounterWidth := some 14 },
     verdict { Request.reference with refreshFloor := some 141 },
     verdict { Request.reference with chainLength := 0, refreshFloor := some 141 },
     verdict { Request.reference with gamma := 11 / 5 },
     verdict { Request.reference with srcBits := 10 },
     verdict { Request.reference with clkDelay := 3 / 2 }] =
    [some (.inl (1, .gChain)), some (.inl (1, .gBankZero)), some (.inl (1, .gBankPow2)), some (.inl (1, .gChain)),
     some (.inl (2, .tPlanes)), some (.inl (2, .tDelay)), some (.inl (2, .tFreq)), some (.inl (2, .tBlankWidth)),
     some (.inl (2, .tBlankWidth)), some (.inl (2, .tRefresh)), some (.inl (1, .gChain)), some (.inr .gamma),
     some (.inr .srcBits), some (.inr .clkDelay)] := by decide +kernel

/-- The accepted rows of 95 section 2.7. -/
theorem test_configValidate_accepts :
    [verdict Request.reference,
     verdict { Request.reference with bankCount := 1 },
     verdict { Request.reference with blankCounterWidth := some 14 },
     verdict { Request.reference with planeCount := 13 },
     verdict { Request.reference with refreshFloor := some 140 },
     verdict { Request.reference with refreshFloor := some (234375 / 1664) }] =
    [none, none, none, none, none, none] := by decide +kernel

/-- 70 R254: construction under reset ends with the registers of the new configuration's reset. -/
theorem test_construct_resets : seqOf (step (hosted true (.construct (requestOf p1)))) =
    some ⟨.idle, 0, 0, 1, 0, 0, false⟩ := by decide +kernel

/-- 60 R226: reset from the middle of a plane period, without a clock edge. -/
theorem test_assertReset_registers :
    seqOf (step { refState ⟨.shiftOut, 5, 3, 7, 2, 0, true⟩ with host := [.assertReset] }) =
      some ⟨.idle, 0, 0, 11, 3, 0, false⟩ := rfl

/-! ## Witnesses: for every statement with hypotheses, states that meet them together -/

theorem witness_DecodeInvertsEncode : Instr.wf .shiftLast = true ∧ decode 0xBF = some .blankEndBank ∧
    Instr.wf .planWait = false := by decide

theorem witness_StepRunsDecodedArm : Running State.reset ∧ decode (selectorWord State.reset) = some .idle :=
  ⟨⟨rfl, rfl⟩, by decide⟩

/-- Idle with D = 1, so the reload is 0. -/
def idleP1 : State := core p1 ⟨.idle, 0, 1, 1, 0, 0, false⟩

/-- The last cycle of plane 0 of the last bank. -/
def lastP1 : State := core p1 ⟨.blank, 0, 1, 0, 0, 0, false⟩

/-- Idle of the one plane of the one bank. -/
def idleP2 : State := core p2 ⟨.idle, 0, 0, 0, 1, 0, false⟩

theorem noFloor {p : Rat → Prop} : ∀ f : Rat, (none : Option Rat) = some f → p f := by
  intro f h
  cases h

theorem valid_p1 : ValidConfig p1 :=
  ⟨by decide, ⟨1, rfl⟩, by decide, by decide, by decide +kernel, by decide, noFloor, by decide, by decide⟩

theorem inv_idleP1 : Inv idleP1 :=
  ⟨valid_p1, ⟨rfl, rfl⟩, by unfold InRange; decide, by unfold InPhase; decide, by decide⟩

theorem inv_lastP1 : Inv lastP1 :=
  ⟨valid_p1, ⟨rfl, rfl⟩, by unfold InRange; decide, by unfold InPhase; decide, by decide⟩

theorem witness_IdleEntersShiftOut : idleP1.seq.state = .idle ∧ Running idleP1 ∧ InPhase idleP1 ∧
    idleP1.cfg.clkDelay = 1 := ⟨rfl, ⟨rfl, rfl⟩, by unfold InPhase; decide, rfl⟩

/-- The counter at 1 and at D - 1, and a core with D = 1. -/
theorem witness_ShiftWaitCountsDown :
    (∀ d ∈ [1, 3], (refState ⟨.shiftOut, 0, 0, 11, d, 0, false⟩).seq.state = .shiftOut ∧
      (refState ⟨.shiftOut, 0, 0, 11, d, 0, false⟩).seq.delayCounter ≠ 0) ∧
    Running (refState ⟨.shiftOut, 0, 0, 11, 1, 0, false⟩) ∧ InRange idleP1 ∧ idleP1.cfg.clkDelay = 1 :=
  ⟨by decide, ⟨rfl, rfl⟩, by unfold InRange; decide, rfl⟩

theorem witness_ShiftRiseRaisesClock : (refState ⟨.shiftOut, 63, 0, 11, 0, 0, false⟩).seq.state = .shiftOut ∧
    (refState ⟨.shiftOut, 63, 0, 11, 0, 0, false⟩).seq.delayCounter = 0 ∧
    (refState ⟨.shiftOut, 63, 0, 11, 0, 0, false⟩).seq.sclk = false ∧
    Running (refState ⟨.shiftOut, 63, 0, 11, 0, 0, false⟩) := ⟨rfl, rfl, rfl, ⟨rfl, rfl⟩⟩

/-- The pixel before the last, and a core with N = 1. -/
theorem witness_ShiftFallAdvancesPixel :
    InRange (refState ⟨.shiftOut, 62, 0, 11, 0, 0, true⟩) ∧ Running (refState ⟨.shiftOut, 62, 0, 11, 0, 0, true⟩) ∧
    decode (selectorWord (refState ⟨.shiftOut, 62, 0, 11, 0, 0, true⟩)) = some .shiftFall ∧
    (refState ⟨.shiftOut, 62, 0, 11, 0, 0, true⟩).seq.pixelIndex ≠ Config.reference.chainLength - 1 ∧
    InRange idleP2 ∧ idleP2.cfg.chainLength = 1 :=
  ⟨by unfold InRange; decide, ⟨rfl, rfl⟩, by decide, by decide, by unfold InRange; decide, rfl⟩

/-- The last pixel of a chain of 64, and of a chain of 1. -/
theorem witness_ShiftLastEntersLatchPre :
    (refState ⟨.shiftOut, 63, 0, 11, 0, 0, true⟩).seq.pixelIndex = Config.reference.chainLength - 1 ∧
    Running (refState ⟨.shiftOut, 63, 0, 11, 0, 0, true⟩) ∧
    decode (selectorWord (refState ⟨.shiftOut, 63, 0, 11, 0, 0, true⟩)) = some .shiftLast ∧
    decode (selectorWord (core p2 ⟨.shiftOut, 0, 0, 0, 0, 0, true⟩)) = some .shiftLast :=
  ⟨rfl, ⟨rfl, rfl⟩, by decide, by decide⟩

/-- LatchPreWaitCountsDown, LatchPreEndEntersLatch, LatchWaitCountsDown, LatchEndEntersLatchPost,
LatchPostWaitCountsDown: each arm's condition on the state, in a running core, and cores with D = 1. -/
theorem witness_LatchGuards :
    (∀ a ∈ [(SeqState.latchPre, Instr.latchPreWait, Instr.latchPreEnd), (.latch, .latchWait, .latchEnd),
        (.latchPost, .latchPostWait, .latchPostEnd)],
      decode (selectorWord (refState ⟨a.1, 0, 0, 11, 1, 0, false⟩)) = some a.2.1 ∧
      decode (selectorWord (refState ⟨a.1, 0, 0, 11, 3, 0, false⟩)) = some a.2.1 ∧
      decode (selectorWord (refState ⟨a.1, 0, 0, 11, 0, 0, false⟩)) = some a.2.2) ∧
    (∀ q, Running (refState ⟨q, 0, 0, 11, 0, 0, false⟩)) ∧ InRange idleP1 ∧ idleP1.cfg.clkDelay = 1 :=
  ⟨by decide, fun _ => ⟨rfl, rfl⟩, by unfold InRange; decide, rfl⟩

/-- LatchWaitCountsDown, LatchEndEntersLatchPost: a step of each strobe arm. -/
theorem witness_LatchStrobe :
    (∃ t, Running (refState ⟨.latch, 0, 0, 11, 1, 0, false⟩) ∧
      decode (selectorWord (refState ⟨.latch, 0, 0, 11, 1, 0, false⟩)) = some .latchWait ∧
      step (refState ⟨.latch, 0, 0, 11, 1, 0, false⟩) = .next t) ∧
    ∃ t, Running (refState ⟨.latch, 0, 0, 11, 0, 0, false⟩) ∧
      decode (selectorWord (refState ⟨.latch, 0, 0, 11, 0, 0, false⟩)) = some .latchEnd ∧
      step (refState ⟨.latch, 0, 0, 11, 0, 0, false⟩) = .next t :=
  ⟨⟨_, ⟨rfl, rfl⟩, by decide, rfl⟩, ⟨_, ⟨rfl, rfl⟩, by decide, rfl⟩⟩

/-- The shortest and the longest window. -/
theorem witness_LatchPostEndLoadsBlank :
    (∀ p ∈ [(0, 8), (11, 16384)],
      (refState ⟨.latchPost, 0, 0, p.1, 0, 0, false⟩).seq.bitPlane = p.1 ∧ State.reset.plan.wait[p.1]? = some p.2 ∧
      (refState ⟨.latchPost, 0, 0, p.1, 0, 0, false⟩).seq.state = .latchPost ∧
      (refState ⟨.latchPost, 0, 0, p.1, 0, 0, false⟩).seq.delayCounter = 0) ∧
    Built (refState ⟨.latchPost, 0, 0, 0, 0, 0, false⟩) ∧ Running (refState ⟨.latchPost, 0, 0, 0, 0, 0, false⟩) :=
  ⟨by decide, ⟨rfl, rfl⟩, ⟨rfl, rfl⟩⟩

/-- The blank counter at 1 and at its greatest value. -/
theorem witness_BlankWaitCountsDown : ∀ b ∈ [1, 16383],
    (∃ t, Running (refState ⟨.blank, 0, 0, 11, 3, b, false⟩) ∧
      decode (selectorWord (refState ⟨.blank, 0, 0, 11, 3, b, false⟩)) = some .blankWait ∧
      step (refState ⟨.blank, 0, 0, 11, 3, b, false⟩) = .next t) ∧
    (refState ⟨.blank, 0, 0, 11, 3, b, false⟩).seq.blankCounter ≠ 0 := by
  intro b hb
  have h : b = 1 ∨ b = 16383 := by simpa using hb
  rcases h with rfl | rfl
  · exact ⟨⟨_, ⟨rfl, rfl⟩, by decide, rfl⟩, by decide⟩
  · exact ⟨⟨_, ⟨rfl, rfl⟩, by decide, rfl⟩, by decide⟩

/-- Plane 1 and plane P - 1, and a core with P = 1. -/
theorem witness_BlankEndPlaneStepsPlane :
    (∃ t, Running (refState ⟨.blank, 0, 3, 1, 3, 0, false⟩) ∧
      decode (selectorWord (refState ⟨.blank, 0, 3, 1, 3, 0, false⟩)) = some .blankEndPlane ∧
      step (refState ⟨.blank, 0, 3, 1, 3, 0, false⟩) = .next t) ∧
    decode (selectorWord (refState ⟨.blank, 0, 3, 11, 3, 0, false⟩)) = some .blankEndPlane ∧
    InRange idleP2 ∧ idleP2.cfg.planeCount = 1 :=
  ⟨⟨_, ⟨rfl, rfl⟩, by decide, rfl⟩, by decide, by unfold InRange; decide, rfl⟩

/-- The last bank, a core with B = 1 and P = 1. -/
theorem witness_BlankEndBankAdvancesBank :
    lastP1.seq.state = .blank ∧ lastP1.seq.blankCounter = 0 ∧ lastP1.seq.bitPlane = 0 ∧ Running lastP1 ∧
    1 ≤ lastP1.cfg.bankCount ∧ lastP1.seq.bank = lastP1.cfg.bankCount - 1 ∧
    InRange (core p2 ⟨.blank, 0, 0, 0, 1, 0, false⟩) ∧ p2.bankCount = 1 ∧ p2.planeCount = 1 ∧
    decode (selectorWord (core p2 ⟨.blank, 0, 0, 0, 1, 0, false⟩)) = some .blankEndBank :=
  ⟨rfl, rfl, rfl, ⟨rfl, rfl⟩, by decide, rfl, by unfold InRange; decide, rfl, rfl, by decide⟩

theorem witness_ReservedStateRefuses :
    Running (refState ⟨.reserved110, 0, 0, 11, 3, 0, false⟩) ∧ SeqState.reserved110.isReserved = true ∧
    Running (refState ⟨.reserved111, 0, 0, 11, 3, 0, false⟩) ∧ SeqState.reserved111.isReserved = true :=
  ⟨⟨rfl, rfl⟩, rfl, ⟨rfl, rfl⟩, rfl⟩

theorem witness_GammaLookupReadsTable : (∃ t, Running idleP1 ∧ step idleP1 = .next t) ∧ Built idleP1 ∧
    1 ≤ idleP1.cfg.gamma ∧ (48 : Byte).toNat ≤ 48 ∧
    (refState ⟨.idle, 0, 0, 5, 3, 0, false⟩).gammaTable = State.reset.gammaTable :=
  ⟨⟨_, ⟨rfl, rfl⟩, rfl⟩, ⟨rfl, rfl⟩, by decide, by decide, rfl⟩

/-- Planes 0, 1, 7, 11; the values beside 2048; and planes on both sides of the gamma width. -/
theorem witness_LaneBitExtractsPlane :
    (∃ t, Running idleP1 ∧ step idleP1 = .next t) ∧
    (∀ p ∈ [0, 1, 7, 11], (refState ⟨.idle, 0, 0, p, 3, 0, false⟩).seq.bitPlane = p) ∧
    (∀ v ∈ [2047, 2048, 4095], v < 4096) ∧ gammaRead State.reset 128 = 130 ∧
    Built (core narrow ⟨.idle, 0, 0, 4, 3, 0, false⟩) ∧
    narrow.dstBits ≤ (core narrow ⟨.idle, 0, 0, 4, 3, 0, false⟩).seq.bitPlane ∧
    (core narrow ⟨.idle, 0, 0, 3, 3, 0, false⟩).seq.bitPlane < narrow.dstBits :=
  ⟨⟨_, ⟨rfl, rfl⟩, rfl⟩, by decide, by decide, by decide +kernel, ⟨rfl, rfl⟩, by decide, by decide⟩

theorem witness_PinsLagOneCycle : ∃ t, Running lastP1 ∧ step lastP1 = .next t := ⟨_, ⟨rfl, rfl⟩, rfl⟩

theorem witness_GammaTableBoundedAndMonotone : (0 : Nat) < 256 ∧ 255 < 256 ∧ 1 ≤ p1.gamma ∧ 48 ≤ 49 ∧
    Config.reference.gamma = 5 := by decide

theorem witness_PlanWaitBuildsSchedule : 11 < Config.reference.planeCount ∧
    Config.reference.planeCount = narrow.planeCount + 6 ∧
    ({ Config.reference with clkFreq := 1 } : Config).planeCount = Config.reference.planeCount ∧
    ({ Config.reference with clkFreq := 1 } : Config).shortestTimeslot = Config.reference.shortestTimeslot := by decide

theorem witness_ScheduleDoublesAndSums : 10 + 1 < Config.reference.planeCount := by decide

/-- The types of 60 R224, on a state that asks for c. -/
def Typed (s : State) (c : Config) : Prop :=
  s.request = requestOf c ∧ 1 ≤ c.gamma ∧ 1 ≤ c.dstBits ∧ 0 ≤ c.clkFreq ∧ ∀ f, c.refreshFloor = some f → 0 < f

theorem typed_reference (f : Config → Config)
    (h : 1 ≤ (f Config.reference).gamma ∧ 1 ≤ (f Config.reference).dstBits ∧ 0 ≤ (f Config.reference).clkFreq)
    (hf : ∀ x, (f Config.reference).refreshFloor = some x → 0 < x) :
    Typed (asking (requestOf (f Config.reference))) (f Config.reference) := ⟨rfl, h.1, h.2.1, h.2.2, hf⟩

/-- ConfigValidateRaisesFirstFailure. The geometry checks: N = 0, B = 0, B = 12, the smallest that pass. -/
theorem witness_ConfigValidate_geometry :
    Typed (asking (requestOf { Config.reference with chainLength := 0 })) { Config.reference with chainLength := 0 } ∧
    Typed (asking (requestOf { Config.reference with bankCount := 0 })) { Config.reference with bankCount := 0 } ∧
    Typed (asking (requestOf { Config.reference with bankCount := 12 })) { Config.reference with bankCount := 12 } ∧
    (∀ k, 12 ≠ 2 ^ k) ∧
    Typed (asking (requestOf { Config.reference with chainLength := 1, bankCount := 1 }))
      { Config.reference with chainLength := 1, bankCount := 1 } ∧ 1 = 2 ^ 0 := by
  refine ⟨typed_reference (fun c => { c with chainLength := 0 }) (by decide +kernel) noFloor,
    typed_reference (fun c => { c with bankCount := 0 }) (by decide +kernel) noFloor,
    typed_reference (fun c => { c with bankCount := 12 }) (by decide +kernel) noFloor, ?_,
    typed_reference (fun c => { c with chainLength := 1, bankCount := 1 }) (by decide +kernel) noFloor,
    rfl⟩
  intro k h
  have := (isPowerOfTwo_iff 12).2 ⟨k, h⟩
  revert this
  decide

/-- ConfigValidateRaisesFirstFailure. The timing checks: P = 0, D = 0, F = 0, BCW one too small and just enough. -/
theorem witness_ConfigValidate_timing :
    Typed (asking (requestOf { Config.reference with planeCount := 0 })) { Config.reference with planeCount := 0 } ∧
    Typed (asking (requestOf { Config.reference with clkDelay := 0 })) { Config.reference with clkDelay := 0 } ∧
    Typed (asking (requestOf { Config.reference with clkFreq := 0 })) { Config.reference with clkFreq := 0 } ∧
    Typed (asking (requestOf { Config.reference with blankCounterWidth := 13 }))
      { Config.reference with blankCounterWidth := 13 } ∧
    2 ^ 13 - 1 < 2 ^ (Config.reference.planeCount - 1 + Config.reference.shortestTimeslot) - 1 ∧
    Typed (asking (requestOf Config.reference)) Config.reference ∧
    2 ^ (Config.reference.planeCount - 1 + Config.reference.shortestTimeslot) - 1 ≤ 2 ^ 14 - 1 ∧
    0 < Config.reference.clkFreq ∧ Config.reference.bankCount = 2 ^ 4 :=
  ⟨typed_reference (fun c => { c with planeCount := 0 }) (by decide +kernel) noFloor,
    typed_reference (fun c => { c with clkDelay := 0 }) (by decide +kernel) noFloor,
    typed_reference (fun c => { c with clkFreq := 0 }) (by decide +kernel) noFloor,
    typed_reference (fun c => { c with blankCounterWidth := 13 }) (by decide +kernel) noFloor, by decide,
    typed_reference id (by decide +kernel) noFloor, by decide, by decide +kernel, rfl⟩

/-- ConfigValidateRaisesFirstFailure. The floor just above and exactly at the planner's refresh rate. -/
theorem witness_ConfigValidate_floor :
    Typed (asking (requestOf { Config.reference with refreshFloor := some 141 }))
      { Config.reference with refreshFloor := some 141 } ∧
    1 / frameTimeOf { Config.reference with refreshFloor := some 141 } < 141 ∧
    Typed (asking (requestOf { Config.reference with refreshFloor := some (234375 / 1664) }))
      { Config.reference with refreshFloor := some (234375 / 1664) } ∧
    234375 / 1664 ≤ 1 / frameTimeOf { Config.reference with refreshFloor := some (234375 / 1664) } :=
  ⟨typed_reference (fun c => { c with refreshFloor := some 141 }) (by decide +kernel)
      (by intro _ h; cases h; decide +kernel),
    by decide +kernel,
    typed_reference (fun c => { c with refreshFloor := some (234375 / 1664) }) (by decide +kernel)
      (by intro _ h; cases h; decide +kernel),
    by decide +kernel⟩

theorem notNatural_negative : NotNatural (-1) :=
  (natField_error .chainLength (-1)).1 ⟨.chainLength, rfl⟩

theorem notNatural_fraction : NotNatural (3 / 2) :=
  (natField_error .clkDelay (3 / 2)).1 ⟨.clkDelay, by unfold natField; rw [if_neg (by decide +kernel)]⟩

/-- A field of each kind out of its type, in a request that is otherwise the reference one. -/
theorem witness_AdmissionRefusesUntypedFields :
    1 ≤ Config.reference.gamma ∧ 1 ≤ Config.reference.dstBits ∧ 0 ≤ Config.reference.clkFreq ∧
    (∀ f, Config.reference.refreshFloor = some f → 0 < f) ∧ NotNatural (-1) ∧ NotNatural (3 / 2) ∧
    (asking { requestOf Config.reference with clkDelay := 3 / 2 }).request =
      { requestOf Config.reference with clkDelay := 3 / 2 } ∧
    (7 : Rat) ≠ 8 ∧ (-1 : Rat) < 0 ∧ (0 : Rat) ≤ 0 :=
  ⟨by decide, by decide, by decide +kernel, noFloor, notNatural_negative, notNatural_fraction, rfl,
    by decide +kernel, by decide +kernel, by decide +kernel⟩

/-- The host constructs with r under reset, and the core has taken the request. -/
def constructing (r : Request) : State :=
  { hosted true (.construct r) with request := r }

/-- A valid request under reset, a rejected one, a refused one, and one without reset. -/
theorem witness_ConstructionUnderReset :
    (hosted true (.construct (requestOf p1))).host = [.construct (requestOf p1)] ∧
    (hosted true (.construct (requestOf p1))).resetLine = true ∧ ValidConfig p1 ∧
    (∃ e, exec .configValidate (constructing (requestOf { p1 with chainLength := 0 })) = .fault e) ∧
    (∃ e, exec .configValidate (constructing { requestOf p1 with srcBits := 10 }) = .refused e) ∧
    (hosted false (.construct (requestOf p1))).resetLine = false := by
  refine ⟨rfl, rfl, valid_p1, ?_, ?_, rfl⟩
  · have h : verdictOf (constructing (requestOf { p1 with chainLength := 0 })) = some (.inl (1, .gChain)) := by decide +kernel
    unfold verdictOf at h
    split at h <;> first | exact ⟨_, by assumption⟩ | cases h
  · have h : verdictOf (constructing { requestOf p1 with srcBits := 10 }) = some (.inr .srcBits) := by decide +kernel
    unfold verdictOf at h
    split at h <;> first | exact ⟨_, by assumption⟩ | cases h

theorem witness_ResetEventAndRelease :
    (hosted false .assertReset).host = [.assertReset] ∧ (hosted true .assertReset).resetLine = true ∧
    (hosted true .assertReset).seq = resetSeqRegs (hosted true .assertReset).cfg ∧
    (hosted true .assertReset).out = resetOutRegs ∧ (hosted true .releaseReset).host = [.releaseReset] ∧
    (hosted true .clock).host = [.clock] ∧ (hosted true .clock).resetLine = true ∧
    ({ State.reset with resetLine := true } : State).host = [] := by decide

/-- At Idle, at the end of a frame, and in a construction. -/
theorem witness_EveryStepKeepsInvariant : (Inv idleP1 ∧ ∃ t, step idleP1 = .next t) ∧
    (Inv lastP1 ∧ ∃ t, step lastP1 = .next t) ∧
    Inv { idleP1 with resetLine := true, host := [.construct (requestOf p1)] } ∧
    seqOf (step { idleP1 with resetLine := true, host := [.construct (requestOf p1)] }) =
      some ⟨.idle, 0, 0, 1, 0, 0, false⟩ :=
  ⟨⟨inv_idleP1, _, rfl⟩, ⟨inv_lastP1, _, rfl⟩, inv_idleP1, by decide +kernel⟩

theorem witness_RunningMachineNeverStops : Running lastP1 ∧ lastP1.seq.state.isReserved = false := ⟨⟨rfl, rfl⟩, rfl⟩

/-- In ShiftOut with the counter run out, with it running, and outside ShiftOut. -/
theorem witness_ShiftClockTogglesOnlyInShiftOut :
    ∀ s ∈ [refState ⟨.shiftOut, 5, 0, 11, 0, 0, true⟩, refState ⟨.shiftOut, 5, 0, 11, 1, 0, true⟩,
        refState ⟨.idle, 0, 0, 11, 0, 0, false⟩], InPhase s ∧ Running s ∧ ∃ t, step s = .next t := by
  intro s hs
  have h : s = refState ⟨.shiftOut, 5, 0, 11, 0, 0, true⟩ ∨ s = refState ⟨.shiftOut, 5, 0, 11, 1, 0, true⟩ ∨
    s = refState ⟨.idle, 0, 0, 11, 0, 0, false⟩ := by simpa using hs
  rcases h with rfl | rfl | rfl <;> exact ⟨by unfold InPhase; decide, ⟨rfl, rfl⟩, _, rfl⟩

/-- The end of plane 0, the end of plane 1, and the cycle before it. -/
theorem witness_PlaneAndBankMoveOnlyAtBlankEnd :
    (Running lastP1 ∧ (∃ t, step lastP1 = .next t) ∧ lastP1.seq.state = .blank ∧ lastP1.seq.blankCounter = 0 ∧
      lastP1.seq.bitPlane = 0) ∧
    (∃ t, step (refState ⟨.blank, 0, 3, 1, 3, 0, false⟩) = .next t) ∧
    ∃ t, step (refState ⟨.blank, 0, 3, 1, 3, 1, false⟩) = .next t :=
  ⟨⟨⟨rfl, rfl⟩, ⟨_, rfl⟩, rfl, rfl, rfl⟩, ⟨_, rfl⟩, ⟨_, rfl⟩⟩

theorem witness_OnlyConstructionWritesConstants : (∃ t, step (hosted false .assertReset) = .next t) ∧
    (∀ r rest, (hosted false .assertReset).host ≠ .construct r :: rest) ∧ Running lastP1 ∧
    ∃ t, step lastP1 = .next t :=
  ⟨⟨_, rfl⟩, (by intro _ _ h; cases h), ⟨rfl, rfl⟩, ⟨_, rfl⟩⟩

/-- A next state of every instruction that has one. -/
theorem witness_InstructionFrames :
    ∀ i : Instr, i ≠ .reservedState → ∃ t, exec i (asking (requestOf p1)) = .next t := by
  intro i hi
  cases i
  case reservedState => exact absurd rfl hi
  case configValidate =>
    have ha : admitRequest (requestOf p1) = .ok p1 :=
      admitRequest_requestOf (by decide) (by decide) (by decide +kernel) noFloor
    have hn : firstFailure p1 = none := by decide +kernel
    have h := (execConfigValidate_of_admitted (s := asking (requestOf p1)) ha).2 hn
    exact ⟨_, h⟩
  all_goals exact ⟨_, rfl⟩

theorem witness_RowIndexIsSum : Config.reference.bankCount = 2 ^ 4 ∧
    (refState ⟨.idle, 0, 15, 11, 3, 0, false⟩).seq.bank < Config.reference.bankCount := by decide

/-- A static image of one pixel for the core of program P2. -/
def imageP2 : State :=
  { idleP2 with source := .image [[⟨255, 128, 0⟩], [⟨255, 128, 0⟩]] }

theorem witness_QueriesFollowTheSource :
    (Running imageP2 ∧ (∃ t, step imageP2 = .next t) ∧ imageP2.source = .image [[⟨255, 128, 0⟩], [⟨255, 128, 0⟩]] ∧
      ([[⟨255, 128, 0⟩], [⟨255, 128, 0⟩]] : List (List (Rgb Byte)))[rowIndex imageP2 .sub1]? = some [⟨255, 128, 0⟩] ∧
      ([⟨255, 128, 0⟩] : List (Rgb Byte))[imageP2.seq.pixelIndex]? = some ⟨255, 128, 0⟩) ∧
    Running lastP1 ∧ (∃ t, step lastP1 = .next t) ∧ lastP1.source = .draw :=
  ⟨⟨⟨rfl, rfl⟩, ⟨_, rfl⟩, rfl, by decide, by decide⟩, ⟨rfl, rfl⟩, ⟨_, rfl⟩, rfl⟩

/-- Two cores whose answers agree on one lane only. -/
theorem witness_LanesAreIndependent :
    ∃ t₁ t₂, Running (answered ⟨.shiftOut, 0, 0, 11, 3, 0, false⟩ ⟨⟨255, 1, 2⟩, ⟨3, 4, 5⟩⟩) ∧
      Running (answered ⟨.shiftOut, 9, 1, 11, 0, 0, true⟩ ⟨⟨255, 6, 7⟩, ⟨8, 9, 10⟩⟩) ∧
      step (answered ⟨.shiftOut, 0, 0, 11, 3, 0, false⟩ ⟨⟨255, 1, 2⟩, ⟨3, 4, 5⟩⟩) = .next t₁ ∧
      step (answered ⟨.shiftOut, 9, 1, 11, 0, 0, true⟩ ⟨⟨255, 6, 7⟩, ⟨8, 9, 10⟩⟩) = .next t₂ ∧
      (answered ⟨.shiftOut, 0, 0, 11, 3, 0, false⟩ ⟨⟨255, 1, 2⟩, ⟨3, 4, 5⟩⟩).gammaTable =
        (answered ⟨.shiftOut, 9, 1, 11, 0, 0, true⟩ ⟨⟨255, 6, 7⟩, ⟨8, 9, 10⟩⟩).gammaTable ∧
      (answersOf (answered ⟨.shiftOut, 0, 0, 11, 3, 0, false⟩ ⟨⟨255, 1, 2⟩, ⟨3, 4, 5⟩⟩)).get .sub0 .r =
        (answersOf (answered ⟨.shiftOut, 9, 1, 11, 0, 0, true⟩ ⟨⟨255, 6, 7⟩, ⟨8, 9, 10⟩⟩)).get .sub0 .r :=
  ⟨_, _, ⟨rfl, rfl⟩, ⟨rfl, rfl⟩, rfl, rfl, rfl, rfl⟩

theorem witness_PlanesBeyondGammaAreDark : Built (core narrow ⟨.shiftOut, 0, 0, 4, 3, 0, false⟩) ∧
    Running (core narrow ⟨.shiftOut, 0, 0, 4, 3, 0, false⟩) ∧
    narrow.dstBits ≤ (core narrow ⟨.shiftOut, 0, 0, 4, 3, 0, false⟩).seq.bitPlane ∧
    ∃ t, step (core narrow ⟨.shiftOut, 0, 0, 4, 3, 0, false⟩) = .next t :=
  ⟨⟨rfl, rfl⟩, ⟨rfl, rfl⟩, by decide, _, rfl⟩

/-- Two cores with different colour sources and free values, equal in what the statement asks for. -/
theorem witness_SequencerIgnoresColours : Running imageP2 ∧ Running { idleP2 with draws := 7 } ∧
    imageP2.cfg = idleP2.cfg ∧ imageP2.plan.wait = idleP2.plan.wait ∧ imageP2.seq = idleP2.seq :=
  ⟨⟨rfl, rfl⟩, ⟨rfl, rfl⟩, rfl, rfl, rfl⟩

theorem witness_ClockFrequencyChangesNoCycle : Running State.reset := ⟨rfl, rfl⟩

/-- PlanePeriodRegisterTimeline, PlanePeriodPinTimeline. Idle of plane 1 of P1, whose plane period has 10 cycles: the
first and the last cycle of each range. -/
theorem witness_PlanePeriodTimelines : Inv idleP1 ∧ Running idleP1 ∧ idleP1.seq.state = .idle ∧
    planeCycles idleP1.cfg idleP1.seq.bitPlane = 10 ∧ 1 ≤ 1 ∧ 1 < 10 ∧ 9 < 10 ∧ 10 ≤ 10 :=
  ⟨inv_idleP1, ⟨rfl, rfl⟩, rfl, by decide, by decide, by decide, by decide, by decide⟩

/-- The image of program P1 with the bank row 1 of both sub-panels, and its last pixel. -/
def imageP1 : State :=
  { idleP1 with
    source := .image [[⟨255, 240, 0⟩, ⟨0, 240, 0⟩], [⟨255, 240, 0⟩, ⟨0, 240, 0⟩],
      [⟨255, 240, 210⟩, ⟨0, 240, 210⟩], [⟨255, 240, 210⟩, ⟨0, 240, 210⟩]] }

theorem witness_LanesCarryPixelDuringItsClock : Inv imageP1 ∧ Running imageP1 ∧ imageP1.seq.state = .idle ∧
    (∃ rows, imageP1.source = .image rows ∧ ∃ row, rows[rowIndex imageP1 .sub1]? = some row ∧
      row[1]? = some ⟨0, 240, 210⟩) ∧
    1 < imageP1.cfg.chainLength ∧ 2 * 1 * imageP1.cfg.clkDelay + 2 ≤ 4 ∧ 5 ≤ (2 * 1 + 2) * imageP1.cfg.clkDelay + 1 :=
  ⟨inv_idleP1, ⟨rfl, rfl⟩, rfl, ⟨_, rfl, _, rfl, rfl⟩, by decide, by decide, by decide⟩

theorem witness_PlanePeriodReachesNextIdle : Inv idleP1 ∧ Running idleP1 ∧ idleP1.seq.state = .idle ∧
    1 < planeCycles idleP1.cfg idleP1.seq.bitPlane ∧ ∃ t, cycles 1 idleP1 = .next t :=
  ⟨inv_idleP1, ⟨rfl, rfl⟩, rfl, by decide, _, rfl⟩

theorem witness_BankSweepVisitsPlanesDownward : Inv idleP1 ∧ Running idleP1 ∧ idleP1.seq.state = .idle ∧
    idleP1.seq.bitPlane = idleP1.cfg.planeCount - 1 ∧ 0 < idleP1.cfg.planeCount ∧ 1 < idleP1.cfg.planeCount :=
  ⟨inv_idleP1, ⟨rfl, rfl⟩, rfl, rfl, by decide, by decide⟩

theorem witness_FrameReturnsToResetRegisters :
    Inv (core p1 (resetSeqRegs p1)) ∧ Running (core p1 (resetSeqRegs p1)) ∧
    (core p1 (resetSeqRegs p1)).seq = resetSeqRegs (core p1 (resetSeqRegs p1)).cfg :=
  ⟨⟨valid_p1, ⟨rfl, rfl⟩, by unfold InRange; decide, by unfold InPhase; decide, by decide⟩, ⟨rfl, rfl⟩, rfl⟩

theorem witness_IdleWithinLongestPlanePeriod : Inv lastP1 ∧ Running lastP1 := ⟨inv_lastP1, ⟨rfl, rfl⟩⟩

end Sys2Proof.Tests
end

section
/-! PROOFS. GAMMA_BUILD (40_gamma.md R110, R111): the integer formula of the model is the floor of the exact
rational. -/

namespace Sys2Proof.Machine

/-- The scaled power of 40 R110 over one denominator: the numerator and the denominator that 40 R111 divides. -/
theorem scaledPower_eq_div (i g d : Nat) :
    ((i : Rat) / 255) ^ g * (2 ^ d - 1) = ((i ^ g * (2 ^ d - 1) : Nat) : Rat) / ((255 ^ g : Nat) : Rat) := by
  have scale : ((2 ^ d - 1 : Nat) : Rat) = 2 ^ d - 1 := by
    rw [Nat.cast_pred (Nat.two_pow_pos d)]
    norm_num
  calc ((i : Rat) / 255) ^ g * (2 ^ d - 1)
      = (i : Rat) ^ g * (2 ^ d - 1) / 255 ^ g := by rw [div_pow, div_mul_eq_mul_div]
    _ = ((i ^ g * (2 ^ d - 1) : Nat) : Rat) / ((255 ^ g : Nat) : Rat) := by
        rw [Nat.cast_mul, scale]
        norm_num

/-- 40 R111: integer division gives the floor that 40 R110 asks for. -/
theorem gammaEntry_eq_floor (c : Config) (i : Nat) :
    (gammaEntry c i : Int) = ⌊((i : Rat) / 255) ^ c.gamma * (2 ^ c.dstBits - 1)⌋ := by
  rw [scaledPower_eq_div, Rat.floor_natCast_div_natCast, gammaEntry, Int.natCast_ediv]

/-- GAMMA_BUILD writes the table of the configuration and nothing else. -/
theorem exec_gammaBuild (s : State) :
    exec .gammaBuild s = .next { s with gammaTable := gammaTableOf s.cfg } := rfl

/-- Settles O26: an entry of the table is an integer quotient, which is the floor of the rational quotient. -/
theorem gammaBuildFloorsScaledPower : Obligations.GammaBuildFloorsScaledPower := by
  intro s
  refine ⟨gammaTableOf s.cfg, exec_gammaBuild s, fun i h => ?_⟩
  rw [gammaTableOf_get]
  exact gammaEntry_eq_floor s.cfg i

end Sys2Proof.Machine
end

section
/-! PROOFS. The TimingPlanner (42_timing_planner.md R151 to R155): the schedule, its sum, and the closed forms of
the values it reports. -/

namespace Sys2Proof.Machine

/-! ### The schedule -/

/-- PLAN_WAIT writes the schedule of the configuration and nothing else. -/
theorem exec_planWait (s : State) :
    exec .planWait s = .next { s with plan := { s.plan with wait := waitSchedule s.cfg } } := rfl

/-- 42 R151: the schedule reads the plane count and the shortest timeslot only. -/
theorem waitSchedule_congr {c c' : Config} (hP : c.planeCount = c'.planeCount)
    (hT : c.shortestTimeslot = c'.shortestTimeslot) : waitSchedule c = waitSchedule c' := by
  have hw : waitCycles c = waitCycles c' := by
    funext p
    rw [waitCycles, waitCycles, hT]
  rw [waitSchedule, waitSchedule, hP, hw]

/-- 42 R152: a plane is blanked for twice as long as the plane below it. -/
theorem waitCycles_succ (c : Config) (p : Nat) : waitCycles c (p + 1) = 2 * waitCycles c p := by
  rw [waitCycles, waitCycles, Nat.add_right_comm, Nat.pow_succ']

/-- The durations of the planes below plane n fill the duration of plane n up to one shortest timeslot. -/
theorem sum_waitCycles_add (c : Config) (n : Nat) :
    ((List.range n).map (waitCycles c)).sum + 2 ^ c.shortestTimeslot = waitCycles c n := by
  induction n with
  | zero => simp [waitCycles]
  | succ n ih =>
    have last : ((List.range (n + 1)).map (waitCycles c)).sum =
        ((List.range n).map (waitCycles c)).sum + waitCycles c n := by simp [List.range_succ]
    rw [last, waitCycles_succ]
    omega

/-- 42 R152: the sum of the schedule. -/
theorem waitSchedule_sum (c : Config) :
    (waitSchedule c).sum = 2 ^ c.shortestTimeslot * (2 ^ c.planeCount - 1) := by
  have h : (waitSchedule c).sum + 2 ^ c.shortestTimeslot = 2 ^ (c.planeCount + c.shortestTimeslot) :=
    sum_waitCycles_add c c.planeCount
  rw [Nat.mul_sub_one, ← Nat.pow_add, Nat.add_comm c.shortestTimeslot]
  exact Nat.eq_sub_of_add_eq h

/-- Settles O28: each entry is the formula of the model, and the formula reads P and T only. -/
theorem planWaitBuildsSchedule : Obligations.PlanWaitBuildsSchedule := by
  refine ⟨fun s => ?_, fun c c' => waitSchedule_congr, by decide⟩
  exact ⟨waitSchedule s.cfg, exec_planWait s, waitSchedule_length s.cfg, fun p => waitSchedule_get s.cfg⟩

/-- Settles O29: the entries double because the durations do, and the sum telescopes. -/
theorem scheduleDoublesAndSums : Obligations.ScheduleDoublesAndSums := by
  refine ⟨fun c p h => ?_, waitSchedule_sum, waitSchedule_sum Config.reference⟩
  refine ⟨waitCycles c p, waitSchedule_get c (Nat.lt_of_succ_lt h), ?_⟩
  rw [waitSchedule_get c h, waitCycles_succ]

/-! ### The reported values -/

/-- PLAN_IO_FREQ writes the shift-clock frequency and nothing else. -/
theorem exec_planIoFreq (s : State) :
    exec .planIoFreq s = .next { s with plan := { s.plan with ioFreq := ioFreqOf s.cfg } } := rfl

/-- PLAN_TRANSFER_TIME writes the transfer time and nothing else. -/
theorem exec_planTransferTime (s : State) :
    exec .planTransferTime s = .next { s with plan := { s.plan with transferTime := transferTimeOf s.cfg } } := rfl

/-- PLAN_FRAME_TIME writes the frame time and nothing else. -/
theorem exec_planFrameTime (s : State) :
    exec .planFrameTime s = .next { s with plan := { s.plan with frameTime := frameTimeOf s.cfg } } := rfl

/-- 42 R154: the transfer time over the clock frequency. With F = 0 or D = 0 both sides are 0. -/
theorem transferTimeOf_eq (c : Config) :
    transferTimeOf c = 2 * c.clkDelay * (c.chainLength + 1) / c.clkFreq := by
  rw [transferTimeOf, ioFreqOf, div_div_eq_mul_div, mul_comm]

/-- The blanking time of a bank (42 R157), with the sum of the schedule in closed form. -/
theorem blankingTimeOf_eq (c : Config) :
    blankingTimeOf c = 2 ^ c.shortestTimeslot * (2 ^ c.planeCount - 1) / c.clkFreq := by
  rw [blankingTimeOf, totalWait, waitSchedule_sum, Nat.cast_mul, Nat.cast_pred (Nat.two_pow_pos _)]
  norm_num

/-- 42 R155: the frame time over the clock frequency. -/
theorem frameTimeOf_eq (c : Config) :
    frameTimeOf c = c.bankCount * (2 ^ c.shortestTimeslot * (2 ^ c.planeCount - 1) +
      2 * c.clkDelay * (c.chainLength + 1)) / c.clkFreq := by
  rw [frameTimeOf, blankingTimeOf_eq, transferTimeOf_eq, ← add_div, mul_comm, mul_div_assoc]

/-- Settles O30: the instruction writes `ioFreqOf`, which is the formula of the rule. -/
theorem planIoFreqIsHalfPeriodRate : Obligations.PlanIoFreqIsHalfPeriodRate := by
  refine ⟨exec_planIoFreq, ?_⟩
  change ioFreqOf Config.reference = 9375000
  norm_num [ioFreqOf, Config.reference]

/-- Settles O31: dividing by the shift-clock frequency is multiplying by `2 D / F`. -/
theorem planTransferTimeInSeconds : Obligations.PlanTransferTimeInSeconds := by
  refine ⟨fun s => ⟨transferTimeOf s.cfg, exec_planTransferTime s, rfl, transferTimeOf_eq s.cfg⟩, ?_⟩
  change transferTimeOf Config.reference = 13 / 1875000
  norm_num [transferTimeOf_eq, Config.reference]

/-- Settles O32: the blanking and the transfer time are both over F, and the schedule has its closed sum. -/
theorem planFrameTimeFormulas : Obligations.PlanFrameTimeFormulas := by
  refine ⟨fun s => ⟨frameTimeOf s.cfg, exec_planFrameTime s, rfl, frameTimeOf_eq s.cfg⟩, ?_⟩
  change frameTimeOf Config.reference = 1664 / 234375
  norm_num [frameTimeOf_eq, Config.reference]

end Sys2Proof.Machine
end

section
/-! PROOFS. The decoder (30_encoding.md R93, R94, R100): the rows of the step-arm map share no word, so a word decodes
to a row's instruction exactly when it has the row's match under its mask. -/

namespace Sys2Proof.Machine

/-! ### The rows of the map -/

/-- The bits an encoding takes from elsewhere are outside the mask, so the row's match stays. -/
theorem encoding_mask (p m fill : Word) (h : p &&& m = p) : (p ||| (fill &&& ~~~m)) &&& m = p := by
  calc (p ||| (fill &&& ~~~m)) &&& m = (p &&& m) ||| (fill &&& (~~~m &&& m)) := by
        rw [BitVec.and_or_distrib_right, BitVec.and_assoc]
    _ = p := by simp [h]

/-- A word with a match under a mask is that match with the word's own bits elsewhere. -/
theorem encoding_self (p m w : Word) (h : w &&& m = p) : p ||| (w &&& ~~~m) = w := by
  rw [← h, ← BitVec.and_or_distrib_left, BitVec.or_not_self, BitVec.and_allOnes]

theorem pattern_and_mask : ∀ row ∈ armTable, row.pattern &&& row.mask = row.pattern := by decide

theorem row_wf : ∀ row ∈ armTable, row.instr.wf = true := by decide

theorem armRow?_of_mem : ∀ row ∈ armTable, armRow? row.instr = some row := by decide

/-- 30 R93: one row selects each word. -/
theorem one_row_selects : ∀ w : Word, (armTable.filter (·.selects w)).length = 1 := by decide +kernel

/-- A word decodes to the instruction of a row of the map exactly when the row selects it. -/
theorem decode_eq_instr_iff {row : ArmRow} (h : row ∈ armTable) (w : Word) :
    decode w = some row.instr ↔ w &&& row.mask = row.pattern := by
  obtain ⟨r, hr⟩ := List.length_eq_one_iff.1 (one_row_selects w)
  have hfind : armTable.find? (·.selects w) = some r := by rw [← List.head?_filter, hr]; rfl
  have hmem : row ∈ armTable.filter (·.selects w) ↔ row.selects w = true := by simp [h]
  have hsel : w &&& row.mask = row.pattern ↔ row = r := by
    rw [← beq_iff_eq, ← ArmRow.selects, ← hmem, hr, List.mem_singleton]
  have hr' : r ∈ armTable := List.mem_of_find?_eq_some hfind
  rw [hsel, decode, hfind, Option.map_some, Option.some_inj]
  constructor
  · intro hi
    have := armRow?_of_mem r hr'
    rw [hi, armRow?_of_mem row h] at this
    exact Option.some.inj this
  · rintro rfl
    rfl

/-- A word that decodes at all decodes to the instruction of a row of the map. -/
theorem exists_row_of_decode {w : Word} {i : Instr} (h : decode w = some i) : ∃ row ∈ armTable, row.instr = i := by
  obtain ⟨row, hrow, hi⟩ := Option.map_eq_some_iff.1 h
  exact ⟨row, List.mem_of_find?_eq_some hrow, hi⟩

/-- A well-formed instruction has a row in the map. -/
theorem exists_row_of_wf {i : Instr} (h : i.wf = true) : ∃ row ∈ armTable, row.instr = i := by
  have hsome : (armRow? i).isSome = true := by cases i <;> first | rfl | cases h
  obtain ⟨row, hrow⟩ := Option.isSome_iff_exists.1 hsome
  exact ⟨row, List.mem_of_find?_eq_some hrow, by simpa using List.find?_some hrow⟩

/-- The encoding of a row's instruction. -/
theorem encode_instr {row : ArmRow} (h : row ∈ armTable) (fill : Word) :
    encode row.instr fill = some (row.pattern ||| (fill &&& ~~~row.mask)) := by
  rw [encode, armRow?_of_mem row h, Option.map_some]

/-- Settles O2: an encoding has its row's match under the row's mask, and so has every word that decodes to it. -/
theorem decodeInvertsEncode : Obligations.DecodeInvertsEncode := by
  refine ⟨fun i fill hi => ?_, fun w i hw => ?_, fun i w hi => ⟨?_, fun hw => ?_⟩⟩
  · obtain ⟨row, hrow, rfl⟩ := exists_row_of_wf hi
    have hmask := encoding_mask row.pattern row.mask fill (pattern_and_mask row hrow)
    exact ⟨_, encode_instr hrow fill, (decode_eq_instr_iff hrow _).2 hmask⟩
  · obtain ⟨row, hrow, rfl⟩ := exists_row_of_decode hw
    refine ⟨row_wf row hrow, ?_⟩
    rw [encode_instr hrow, encoding_self _ _ _ ((decode_eq_instr_iff hrow w).1 hw)]
  · cases i <;> first | rfl | cases hi
  · obtain ⟨row, hrow, rfl⟩ := exists_row_of_decode hw
    rw [row_wf row hrow] at hi
    cases hi

/-- Settles O1: a list of length 1 is the list of its one row, and the decoder finds that row. -/
theorem everyWordMatchesOneRow : Obligations.EveryWordMatchesOneRow := by
  intro w
  obtain ⟨row, hrow⟩ := List.length_eq_one_iff.1 (one_row_selects w)
  refine ⟨row, hrow, ?_⟩
  rw [decode, ← List.head?_filter, hrow]
  rfl

/-- Settles O3: the decoder evaluated on the fifteen words. -/
theorem specSelectorWordsDecode : Obligations.SpecSelectorWordsDecode := by
  unfold Obligations.SpecSelectorWordsDecode
  decide

/-! ### The selector word of a state -/

/-- 30 R92: where the fields of a packed word stand. -/
theorem packSelector_layout (code : BitVec 3) (dz sc pl bz pz : Bool) :
    (packSelector code dz sc pl bz pz).extractLsb' 5 3 = code ∧
    (packSelector code dz sc pl bz pz).getLsbD 4 = dz ∧ (packSelector code dz sc pl bz pz).getLsbD 3 = sc ∧
    (packSelector code dz sc pl bz pz).getLsbD 2 = pl ∧ (packSelector code dz sc pl bz pz).getLsbD 1 = bz ∧
    (packSelector code dz sc pl bz pz).getLsbD 0 = pz := by
  revert code dz sc pl bz pz
  decide

theorem condDZ_iff (s : State) : condDZ s = true ↔ s.seq.delayCounter = 0 := by simp [condDZ]
theorem condSC_iff (s : State) : condSC s = true ↔ s.seq.sclk = true := Iff.rfl
theorem condPL_iff (s : State) : condPL s = true ↔ s.seq.pixelIndex = s.cfg.chainLength - 1 := by simp [condPL]
theorem condBZ_iff (s : State) : condBZ s = true ↔ s.seq.blankCounter = 0 := by simp [condBZ]
theorem condPZ_iff (s : State) : condPZ s = true ↔ s.seq.bitPlane = 0 := by simp [condPZ]

/-- Settles O4: the fields of the packed word, and what each condition bit says. -/
theorem selectorWordLayout : Obligations.SelectorWordLayout := by
  refine ⟨fun s => ?_, stateOfCode_stateCode, rfl, rfl, rfl, rfl, rfl, rfl⟩
  obtain ⟨hcode, hdz, hsc, hpl, hbz, hpz⟩ :=
    packSelector_layout (stateCode s.seq.state) (condDZ s) (condSC s) (condPL s) (condBZ s) (condPZ s)
  rw [selectorWord, hcode, hdz, hsc, hpl, hbz, hpz]
  exact ⟨rfl, condDZ_iff s, condSC_iff s, condPL_iff s, condBZ_iff s, condPZ_iff s⟩

/-! ### Dispatch -/

/-- Settles O6: the selected arm commutes with the combinational work of the cycle. -/
theorem stepRunsDecodedArm : Obligations.StepRunsDecodedArm := by
  intro s i hr hi
  rw [decode_selectorWord, Option.some_inj] at hi
  rw [step_of_running hr, exec_combined (armOf_wf ..), hi]

/-- The registers that `withSelector` makes have the wanted selector word. -/
theorem selectorWord_withSelector (s : State) (w : Word) : selectorWord (s.withSelector w) = w := by
  simp only [selectorWord, condDZ, condSC, condPL, condBZ, condPZ, State.withSelector_seq, State.withSelector_cfg,
    seqForSelector, stateCode_stateOfCode, counterFor_isZero, pixelFor_isLast, packSelector_fields]

/-- The state that runs the word w next is the one whose selector word is w. -/
theorem withFetchWord_toNat (s : State) (w : Word) : s.withFetchWord 8 w.toNat = s.withSelector w := by
  simp [State.withFetchWord, placeWord]

/-- The decoder reads one selector word from eight bits. -/
theorem decodeTableWord_toNat {w : Word} {i : Instr} (h : decode w = some i) : decodeTableWord 8 w.toNat = some i := by
  have hbytes : wordBytes 1 (w.toNat % 2 ^ 8) = [w] := by
    rw [Nat.mod_eq_of_lt w.isLt, wordBytes, wordBytes, BitVec.ofNat_toNat, BitVec.setWidth_eq]
  simp only [decodeTableWord, hbytes, decodeBytes, h]

/-- Settles O5: the placed word is the selector word, and a running machine runs what its selector word decodes to. -/
theorem placedWordRuns : Obligations.PlacedWordRuns := by
  intro s w
  rw [withFetchWord_toNat]
  have hrun : Running (s.withSelector w) := ⟨rfl, rfl⟩
  have hword := selectorWord_withSelector s w
  obtain ⟨row, -, hrow⟩ := everyWordMatchesOneRow w
  refine ⟨hrun, hword, row.instr, decodeTableWord_toNat hrow, stepRunsDecodedArm _ _ hrun ?_⟩
  rw [hword, hrow]

end Sys2Proof.Machine
end

section
/-! PROOFS. The clock edge of a running machine outside the reserved codes as a function on states, so that n cycles
are its n-th iterate (43_sequencer.md R186). -/

namespace Sys2Proof.Machine

/-! ### One clock edge -/

/-- A running machine whose state code is not reserved. -/
def Live (s : State) : Prop :=
  Running s ∧ s.seq.state.isReserved = false

/-- The state after a clock edge of a running machine outside the reserved codes. -/
def edge (s : State) : State :=
  besideArm s { s with seq := nextSeq s }

@[simp] theorem edge_request (s : State) : (edge s).request = s.request := rfl
@[simp] theorem edge_cfg (s : State) : (edge s).cfg = s.cfg := rfl
@[simp] theorem edge_gammaTable (s : State) : (edge s).gammaTable = s.gammaTable := rfl
@[simp] theorem edge_plan (s : State) : (edge s).plan = s.plan := rfl
@[simp] theorem edge_seq (s : State) : (edge s).seq = nextSeq s := rfl
@[simp] theorem edge_out (s : State) : (edge s).out = nextPins s := rfl
@[simp] theorem edge_sig (s : State) : (edge s).sig = nextSignals s := rfl
@[simp] theorem edge_resetLine (s : State) : (edge s).resetLine = s.resetLine := rfl
@[simp] theorem edge_source (s : State) : (edge s).source = sourceNext s.source := rfl
@[simp] theorem edge_draws (s : State) : (edge s).draws = s.draws + 2 := rfl
@[simp] theorem edge_host (s : State) : (edge s).host = s.host := rfl

theorem step_of_live {s : State} (h : Live s) : step s = .next (edge s) :=
  step_eq_nextSeq h.1 h.2

/-- The one next state of a running machine. -/
theorem eq_edge_of_step {s t : State} (hr : Running s) (h : step s = .next t) : Live s ∧ t = edge s := by
  obtain ⟨hq, ht⟩ := step_eq_next_of_running hr h
  exact ⟨⟨hr, hq⟩, ht⟩

/-- The selected arm after the combinational work of the cycle has no next state but that of the clock edge. -/
theorem eq_edge_of_arm {s t : State}
    (h : exec (armOf s.seq.state (condDZ s) (condSC s) (condPL s) (condBZ s) (condPZ s)) (combined s) = .next t) :
    s.seq.state.isReserved = false ∧ t = edge s := by
  rw [exec_combined (armOf_wf ..)] at h
  cases hres : s.seq.state.isReserved with
  | false =>
    rw [exec_selected hres] at h
    cases h
    exact ⟨rfl, rfl⟩
  | true =>
    cases hq : s.seq.state with
    | reserved110 | reserved111 => rw [hq] at h; cases h
    | _ => simp [hq, SeqState.isReserved] at hres

/-! ### What the registers become -/

/-- The four states that the delay counter times. -/
def SeqState.isTimed : SeqState → Bool
  | .shiftOut | .latchPre | .latch | .latchPost => true
  | .idle | .blank | .reserved110 | .reserved111 => false

section
variable {s : State}

theorem nextSeq_idle (hq : s.seq.state = .idle) : nextSeq s =
    { s.seq with pixelIndex := 0, delayCounter := s.cfg.clkDelay - 1, sclk := false, state := .shiftOut } := by
  simp [nextSeq, hq]

theorem nextSeq_wait (hq : s.seq.state.isTimed = true) (hd : s.seq.delayCounter ≠ 0) :
    nextSeq s = { s.seq with delayCounter := s.seq.delayCounter - 1 } := by
  cases hs : s.seq.state <;> simp [nextSeq, hs, hd, SeqState.isTimed] at hq ⊢

theorem nextSeq_rise (hq : s.seq.state = .shiftOut) (hd : s.seq.delayCounter = 0) (hc : s.seq.sclk = false) :
    nextSeq s = { s.seq with delayCounter := s.cfg.clkDelay - 1, sclk := true } := by
  simp [nextSeq, hq, hd, hc]

theorem nextSeq_fall (hq : s.seq.state = .shiftOut) (hd : s.seq.delayCounter = 0) (hc : s.seq.sclk = true)
    (hp : s.seq.pixelIndex ≠ s.cfg.chainLength - 1) : nextSeq s =
      { s.seq with delayCounter := s.cfg.clkDelay - 1, sclk := false, pixelIndex := s.seq.pixelIndex + 1 } := by
  simp [nextSeq, hq, hd, hc, hp]

theorem nextSeq_last (hq : s.seq.state = .shiftOut) (hd : s.seq.delayCounter = 0) (hc : s.seq.sclk = true)
    (hp : s.seq.pixelIndex = s.cfg.chainLength - 1) : nextSeq s =
      { s.seq with delayCounter := s.cfg.clkDelay - 1, sclk := false, pixelIndex := 0, state := .latchPre } := by
  simp [nextSeq, hq, hd, hc, hp]

theorem nextSeq_preEnd (hq : s.seq.state = .latchPre) (hd : s.seq.delayCounter = 0) :
    nextSeq s = { s.seq with delayCounter := s.cfg.clkDelay - 1, state := .latch } := by
  simp [nextSeq, hq, hd]

theorem nextSeq_latchEnd (hq : s.seq.state = .latch) (hd : s.seq.delayCounter = 0) :
    nextSeq s = { s.seq with delayCounter := s.cfg.clkDelay - 1, state := .latchPost } := by
  simp [nextSeq, hq, hd]

theorem nextSeq_postEnd (hq : s.seq.state = .latchPost) (hd : s.seq.delayCounter = 0) : nextSeq s =
    { s.seq with blankCounter := blankReload s, delayCounter := s.cfg.clkDelay - 1, state := .blank } := by
  simp [nextSeq, hq, hd]

theorem nextSeq_blankWait (hq : s.seq.state = .blank) (hb : s.seq.blankCounter ≠ 0) :
    nextSeq s = { s.seq with blankCounter := s.seq.blankCounter - 1 } := by
  simp [nextSeq, hq, hb]

theorem nextSeq_endPlane (hq : s.seq.state = .blank) (hb : s.seq.blankCounter = 0) (hp : s.seq.bitPlane ≠ 0) :
    nextSeq s = { s.seq with bitPlane := s.seq.bitPlane - 1, state := .idle } := by
  simp [nextSeq, hq, hb, hp]

theorem nextSeq_endBank (hq : s.seq.state = .blank) (hb : s.seq.blankCounter = 0) (hp : s.seq.bitPlane = 0) :
    nextSeq s = { s.seq with
      bank := (s.seq.bank + 1) % s.cfg.bankCount, bitPlane := s.cfg.planeCount - 1, state := .idle } := by
  simp [nextSeq, hq, hb, hp]

/-- Everything a clock edge outside the reserved codes can do to the sequencer registers: the arms of 43 R171 to
R184, with the condition that selects each. The four countdowns of the delay counter are one case. -/
theorem nextSeq_cases (motive : SeqRegs → Prop) (hs : s.seq.state.isReserved = false)
    (idle : s.seq.state = .idle → motive
      { s.seq with pixelIndex := 0, delayCounter := s.cfg.clkDelay - 1, sclk := false, state := .shiftOut })
    (wait : s.seq.state.isTimed = true → s.seq.delayCounter ≠ 0 → motive
      { s.seq with delayCounter := s.seq.delayCounter - 1 })
    (rise : s.seq.state = .shiftOut → s.seq.delayCounter = 0 → s.seq.sclk = false → motive
      { s.seq with delayCounter := s.cfg.clkDelay - 1, sclk := true })
    (fall : s.seq.state = .shiftOut → s.seq.delayCounter = 0 → s.seq.sclk = true →
      s.seq.pixelIndex ≠ s.cfg.chainLength - 1 → motive
      { s.seq with delayCounter := s.cfg.clkDelay - 1, sclk := false, pixelIndex := s.seq.pixelIndex + 1 })
    (last : s.seq.state = .shiftOut → s.seq.delayCounter = 0 → s.seq.sclk = true →
      s.seq.pixelIndex = s.cfg.chainLength - 1 → motive
      { s.seq with delayCounter := s.cfg.clkDelay - 1, sclk := false, pixelIndex := 0, state := .latchPre })
    (preEnd : s.seq.state = .latchPre → s.seq.delayCounter = 0 → motive
      { s.seq with delayCounter := s.cfg.clkDelay - 1, state := .latch })
    (latchEnd : s.seq.state = .latch → s.seq.delayCounter = 0 → motive
      { s.seq with delayCounter := s.cfg.clkDelay - 1, state := .latchPost })
    (postEnd : s.seq.state = .latchPost → s.seq.delayCounter = 0 → motive
      { s.seq with blankCounter := blankReload s, delayCounter := s.cfg.clkDelay - 1, state := .blank })
    (blankWait : s.seq.state = .blank → s.seq.blankCounter ≠ 0 → motive
      { s.seq with blankCounter := s.seq.blankCounter - 1 })
    (endPlane : s.seq.state = .blank → s.seq.blankCounter = 0 → s.seq.bitPlane ≠ 0 → motive
      { s.seq with bitPlane := s.seq.bitPlane - 1, state := .idle })
    (endBank : s.seq.state = .blank → s.seq.blankCounter = 0 → s.seq.bitPlane = 0 → motive
      { s.seq with
        bank := (s.seq.bank + 1) % s.cfg.bankCount, bitPlane := s.cfg.planeCount - 1, state := .idle }) :
    motive (nextSeq s) := by
  by_cases ht : s.seq.state.isTimed = true ∧ s.seq.delayCounter ≠ 0
  · rw [nextSeq_wait ht.1 ht.2]
    exact wait ht.1 ht.2
  have hd (h : s.seq.state.isTimed = true) : s.seq.delayCounter = 0 := by
    by_contra hne
    exact ht ⟨h, hne⟩
  cases hq : s.seq.state with
  | reserved110 => simp [hq, SeqState.isReserved] at hs
  | reserved111 => simp [hq, SeqState.isReserved] at hs
  | idle =>
    rw [nextSeq_idle hq]
    exact idle hq
  | shiftOut =>
    have hz := hd (by rw [hq]; rfl)
    cases hc : s.seq.sclk with
    | false =>
      rw [nextSeq_rise hq hz hc]
      exact rise hq hz hc
    | true =>
      by_cases hp : s.seq.pixelIndex = s.cfg.chainLength - 1
      · rw [nextSeq_last hq hz hc hp]
        exact last hq hz hc hp
      · rw [nextSeq_fall hq hz hc hp]
        exact fall hq hz hc hp
  | latchPre =>
    have hz := hd (by rw [hq]; rfl)
    rw [nextSeq_preEnd hq hz]
    exact preEnd hq hz
  | latch =>
    have hz := hd (by rw [hq]; rfl)
    rw [nextSeq_latchEnd hq hz]
    exact latchEnd hq hz
  | latchPost =>
    have hz := hd (by rw [hq]; rfl)
    rw [nextSeq_postEnd hq hz]
    exact postEnd hq hz
  | blank =>
    by_cases hb : s.seq.blankCounter = 0
    · by_cases hp : s.seq.bitPlane = 0
      · rw [nextSeq_endBank hq hb hp]
        exact endBank hq hb hp
      · rw [nextSeq_endPlane hq hb hp]
        exact endPlane hq hb hp
    · rw [nextSeq_blankWait hq hb]
      exact blankWait hq hb

end

/-- No arm writes a reserved code (30 R91). -/
theorem nextSeq_isReserved {s : State} (h : s.seq.state.isReserved = false) :
    (nextSeq s).state.isReserved = false := by
  refine nextSeq_cases (fun r => r.state.isReserved = false) h ?idle ?wait ?rise ?fall ?last ?preEnd ?latchEnd ?postEnd
    ?blankWait ?endPlane ?endBank
  case wait | rise | fall | blankWait =>
    intros
    exact h
  all_goals
    intros
    rfl

theorem live_edge {s : State} (h : Live s) : Live (edge s) :=
  ⟨h.1, nextSeq_isReserved h.2⟩

/-! ### Any number of clock edges -/

theorem live_iterate {s : State} (h : Live s) (n : Nat) : Live (edge^[n] s) := by
  induction n with
  | zero => exact h
  | succ n ih =>
    rw [Function.iterate_succ_apply']
    exact live_edge ih

/-- n cycles of a running machine outside the reserved codes are n clock edges. -/
theorem cycles_of_live {s : State} (h : Live s) (n : Nat) : cycles n s = .next (edge^[n] s) := by
  induction n generalizing s with
  | zero => rfl
  | succ n ih => rw [cycles_succ, step_of_live h, andThen_next, ih (live_edge h), Function.iterate_succ_apply]

/-- What a clock edge keeps, n of them keep. -/
theorem iterate_edge_kept {α : Type} (f : State → α) (hf : ∀ s, f (edge s) = f s) (n : Nat) (s : State) :
    f (edge^[n] s) = f s := by
  induction n with
  | zero => rfl
  | succ n ih => rw [Function.iterate_succ_apply', hf, ih]

@[simp] theorem iterate_edge_cfg (n : Nat) (s : State) : (edge^[n] s).cfg = s.cfg :=
  iterate_edge_kept State.cfg edge_cfg n s

@[simp] theorem iterate_edge_plan (n : Nat) (s : State) : (edge^[n] s).plan = s.plan :=
  iterate_edge_kept State.plan edge_plan n s

@[simp] theorem iterate_edge_gammaTable (n : Nat) (s : State) : (edge^[n] s).gammaTable = s.gammaTable :=
  iterate_edge_kept State.gammaTable edge_gammaTable n s

theorem built_iterate {s : State} (h : Built s) (n : Nat) : Built (edge^[n] s) := by
  simpa [Built] using h

/-! ### What the sequence does not depend on -/

/-- The next registers read the configuration, the schedule and the registers, and nothing else (43 R201). -/
theorem nextSeq_congr {s₁ s₂ : State} (hc : s₁.cfg = s₂.cfg) (hw : s₁.plan.wait = s₂.plan.wait)
    (hq : s₁.seq = s₂.seq) : nextSeq s₁ = nextSeq s₂ := by
  unfold nextSeq blankReload scheduleEntry
  rw [hc, hw, hq]

theorem iterate_edge_seq_congr {s₁ s₂ : State} (hc : s₁.cfg = s₂.cfg) (hw : s₁.plan.wait = s₂.plan.wait)
    (hq : s₁.seq = s₂.seq) (n : Nat) : (edge^[n] s₁).seq = (edge^[n] s₂).seq := by
  induction n with
  | zero => exact hq
  | succ n ih =>
    rw [Function.iterate_succ_apply', Function.iterate_succ_apply', edge_seq, edge_seq]
    exact nextSeq_congr (by simpa using hc) (by simpa using hw) ih

/-- A running machine that stands on a reserved code has no next state after the first cycle. -/
theorem cycles_of_reserved {s : State} (hr : Running s) (h : s.seq.state.isReserved = true) (n : Nat) :
    cycles (n + 1) s = .refused .unreachableState := by
  rw [cycles_succ, step_of_reserved hr h, andThen_refused]

/-- Settles O50: outside the reserved codes by induction on the cycles; on one, both runs stop at the first cycle. -/
theorem sequencerIgnoresColours : Obligations.SequencerIgnoresColours := by
  intro n s₁ s₂ hr₁ hr₂ hc hw hq
  cases hres : s₁.seq.state.isReserved with
  | false =>
    rw [cycles_of_live ⟨hr₁, hres⟩, cycles_of_live ⟨hr₂, hq ▸ hres⟩]
    exact congrArg some (iterate_edge_seq_congr hc hw hq n)
  | true =>
    cases n with
    | zero => exact congrArg some hq
    | succ n => rw [cycles_of_reserved hr₁ hres, cycles_of_reserved hr₂ (hq ▸ hres)]

/-- The same machine with another clock frequency and other reported values (42 R159). -/
def reclocked (f io tt ft : Rat) (s : State) : State :=
  { s with
    cfg := { s.cfg with clkFreq := f }
    plan := { s.plan with ioFreq := io, transferTime := tt, frameTime := ft } }

/-- A clock edge reads neither the clock frequency nor the reported values. -/
theorem edge_reclocked (f io tt ft : Rat) (s : State) :
    edge (reclocked f io tt ft s) = reclocked f io tt ft (edge s) := rfl

theorem iterate_edge_reclocked (f io tt ft : Rat) (n : Nat) (s : State) :
    edge^[n] (reclocked f io tt ft s) = reclocked f io tt ft (edge^[n] s) :=
  ((show Function.Commute edge (reclocked f io tt ft) from edge_reclocked f io tt ft).iterate_left n) s

/-- Settles O51: changing the frequency commutes with every clock edge, and leaves registers and pins alone. -/
theorem clockFrequencyChangesNoCycle : Obligations.ClockFrequencyChangesNoCycle := by
  intro n s f io tt ft hr
  change seqOf (cycles n (reclocked f io tt ft s)) = _ ∧ pinsOf (cycles n (reclocked f io tt ft s)) = _
  have hr' : Running (reclocked f io tt ft s) := hr
  cases hres : s.seq.state.isReserved with
  | false =>
    have hl : Live (reclocked f io tt ft s) := ⟨hr', hres⟩
    rw [cycles_of_live ⟨hr, hres⟩, cycles_of_live hl, iterate_edge_reclocked]
    exact ⟨rfl, rfl⟩
  | true =>
    cases n with
    | zero => exact ⟨rfl, rfl⟩
    | succ n =>
      rw [cycles_of_reserved hr hres, cycles_of_reserved hr' hres]
      exact ⟨rfl, rfl⟩

/-! ### No stop and no change of constants -/

/-- The arm that a state outside the reserved codes selects is a step arm. -/
theorem armOf_rowClass {q : SeqState} (h : q.isReserved = false) (dz sc pl bz pz : Bool) :
    (armOf q dz sc pl bz pz).rowClass = .seq := by
  unfold armOf
  split
  case h_15 | h_16 => cases h
  all_goals rfl

/-- Settles O41: outside the reserved codes a step is a clock edge, which stays outside them. -/
theorem runningMachineNeverStops : Obligations.RunningMachineNeverStops := by
  refine ⟨fun s hr h => ?_, fun n s hr h => ⟨_, cycles_of_live ⟨hr, h⟩ n⟩⟩
  exact ⟨_, edge s, armOf_rowClass h .., decode_selectorWord s, step_of_live ⟨hr, h⟩, hr, nextSeq_isReserved h⟩

end Sys2Proof.Machine
end

section
/-! PROOFS. Reset (60_exceptions.md R226 to R228) and the invariant of the machine (10_state.md R47, R48): it holds at
reset, and every clock edge, reset and construction keeps it. -/

namespace Sys2Proof.Machine

/-! ### Reset -/

/-- Settles O37: the reset values as the model has them, and those of the reference core. -/
theorem resetRegisterValues : Obligations.ResetRegisterValues :=
  ⟨fun _ => rfl, rfl, rfl, rfl, rfl, by decide⟩

/-- A host action waiting: the step takes it. -/
theorem step_of_action {s : State} {a : HostAction} {rest : List HostAction} (h : s.host = a :: rest) :
    step s = hostAct a (s.withHost rest) := by
  simp [step, nextEvent, h]

/-- No host action waiting: the step is a clock edge. -/
theorem step_of_no_action {s : State} (h : s.host = []) : step s = clockEdge s := by
  simp [step, nextEvent, h]

/-- Settles O38: each clause is one action of the host, or a clock edge under reset. -/
theorem resetEventAndRelease : Obligations.ResetEventAndRelease := by
  intro s rest
  refine ⟨fun h => ?_, fun h hl hq ho => ?_, fun h => ?_, fun hl h => ?_, fun hl h => ?_⟩
  · rw [step_of_action h]
    rfl
  · rw [step_of_action h, hostAct, State.assertReset, State.resetRegisters, State.withHost_cfg, ← hq, ← ho]
    rw [State.withResetLine, ← hl]
    rfl
  · rw [step_of_action h]
    rfl
  · rw [step_of_no_action h, clockEdge_of_reset hl]
    rfl
  · rw [step_of_action h, hostAct, clockEdge_of_reset (by simpa using hl)]
    rfl

/-! ### The invariant at reset -/

theorem bankCount_pos {c : Config} (h : ValidConfig c) : 0 < c.bankCount := by
  obtain ⟨-, ⟨k, hk⟩, -⟩ := h
  rw [hk]
  exact Nat.two_pow_pos k

theorem clkDelay_pos {s : State} (h : Inv s) : 1 ≤ s.cfg.clkDelay := by
  obtain ⟨⟨-, -, -, hD, -⟩, -⟩ := h
  exact hD

/-- A core with the constants of a valid configuration and every register at its reset value meets the invariant. -/
theorem inv_of_reset {s : State} (hv : ValidConfig s.cfg) (hb : Built s) (hq : s.seq = resetSeqRegs s.cfg)
    (ho : s.out = resetOutRegs) : Inv s := by
  have hB := bankCount_pos hv
  have hw := waitCycles_pos s.cfg (s.cfg.planeCount - 1)
  obtain ⟨hN, -, hP, hD, -⟩ := id hv
  refine ⟨hv, hb, ?_, ?_, ?_⟩
  · rw [InRange, hq]
    refine ⟨hN, hB, ?_, ?_, hw⟩ <;> simp only [resetSeqRegs] <;> omega
  · rw [InPhase, hq]
    exact ⟨rfl, fun _ => ⟨rfl, rfl⟩, fun h => by cases h⟩
  · rw [ho]
    exact hB

theorem inv_resetRegisters {s : State} (h : Inv s) : Inv s.resetRegisters :=
  inv_of_reset h.1 h.2.1 rfl rfl

theorem inv_constructed {r : Request} {c : Config} (s : State) (h : ValidConfig c) : Inv (constructed s r c) :=
  inv_of_reset (s := constructed s r c) h ⟨rfl, rfl⟩ rfl rfl

theorem validConfig_reference : ValidConfig Config.reference :=
  ⟨by decide, ⟨4, rfl⟩, by decide, by decide, by decide +kernel, by decide, by decide, by decide, by decide⟩

/-- Settles O39: the reference configuration is valid, and the registers are its reset registers. -/
theorem resetMeetsInvariant : Obligations.ResetMeetsInvariant :=
  inv_of_reset (s := State.reset) validConfig_reference ⟨rfl, rfl⟩ rfl rfl

/-! ### The invariant after a clock edge -/

theorem waitCycles_mono (c : Config) {p q : Nat} (h : p ≤ q) : waitCycles c p ≤ waitCycles c q :=
  Nat.pow_le_pow_right (by decide) (Nat.add_le_add_right h _)

/-- The value an arm loads into the blank counter is below the window of the plane. -/
theorem blankReload_lt {s : State} (h : Built s) : blankReload s < waitCycles s.cfg s.seq.bitPlane := by
  rw [blankReload, scheduleEntry_of_built h]
  exact Nat.sub_one_lt_of_lt (waitCycles_pos _ _)

/-- The ranges of 10 R47 and the phases of 10 R48, on the registers alone. -/
def GoodRegs (c : Config) (r : SeqRegs) : Prop :=
  r.pixelIndex < c.chainLength ∧ r.bank < c.bankCount ∧ r.bitPlane < c.planeCount ∧ r.delayCounter < c.clkDelay ∧
  r.blankCounter < waitCycles c (c.planeCount - 1) ∧ r.state.isReserved = false ∧
  (r.state ≠ .shiftOut → r.sclk = false ∧ r.pixelIndex = 0) ∧
  (r.state = .blank → r.blankCounter < waitCycles c r.bitPlane)

theorem goodRegs_iff (s : State) : GoodRegs s.cfg s.seq ↔ InRange s ∧ InPhase s := by
  simp only [GoodRegs, InRange, InPhase, and_assoc]

/-- Every arm keeps ranges and phases: reloads are below their bounds, and countdowns only lower a counter. -/
theorem goodRegs_nextSeq {s : State} (hv : ValidConfig s.cfg) (hb : Built s) (h : GoodRegs s.cfg s.seq) :
    GoodRegs s.cfg (nextSeq s) := by
  have hB := bankCount_pos hv
  have hload := blankReload_lt hb
  obtain ⟨hN, -, hP, hD, -⟩ := hv
  obtain ⟨hpix, hbank, hplane, hdelay, hblank, hres, hphase, hwin⟩ := h
  have hreload : s.cfg.clkDelay - 1 < s.cfg.clkDelay := by omega
  have hmax := waitCycles_mono s.cfg (Nat.le_sub_one_of_lt hplane)
  refine nextSeq_cases (GoodRegs s.cfg) hres ?idle ?wait ?rise ?fall ?last ?preEnd ?latchEnd ?postEnd ?blankWait
    ?endPlane ?endBank
  case idle => exact fun _ => ⟨hN, hbank, hplane, hreload, hblank, rfl, fun h => absurd rfl h, nofun⟩
  case wait =>
    intro _ _
    exact ⟨hpix, hbank, hplane, Nat.lt_of_le_of_lt (Nat.sub_le _ _) hdelay, hblank, hres, hphase, hwin⟩
  case rise =>
    intro hq _ _
    exact ⟨hpix, hbank, hplane, hreload, hblank, hres, fun h => absurd hq h, hwin⟩
  case fall =>
    intro hq _ _ hp
    have hnext : s.seq.pixelIndex + 1 < s.cfg.chainLength := by omega
    exact ⟨hnext, hbank, hplane, hreload, hblank, hres, fun h => absurd hq h, hwin⟩
  case last => exact fun _ _ _ _ => ⟨hN, hbank, hplane, hreload, hblank, rfl, fun _ => ⟨rfl, rfl⟩, nofun⟩
  case preEnd =>
    intro hq _
    exact ⟨hpix, hbank, hplane, hreload, hblank, rfl, fun _ => hphase (by simp [hq]), nofun⟩
  case latchEnd =>
    intro hq _
    exact ⟨hpix, hbank, hplane, hreload, hblank, rfl, fun _ => hphase (by simp [hq]), nofun⟩
  case postEnd =>
    intro hq _
    exact ⟨hpix, hbank, hplane, hreload, hload.trans_le hmax, rfl, fun _ => hphase (by simp [hq]), fun _ => hload⟩
  case blankWait =>
    intro hq _
    have hle : s.seq.blankCounter - 1 ≤ s.seq.blankCounter := Nat.sub_le _ _
    exact ⟨hpix, hbank, hplane, hdelay, hle.trans_lt hblank, hres, hphase, fun h => hle.trans_lt (hwin h)⟩
  case endPlane =>
    intro hq _ _
    have hlt : s.seq.bitPlane - 1 < s.cfg.planeCount := by omega
    exact ⟨hpix, hbank, hlt, hdelay, hblank, rfl, fun _ => hphase (by simp [hq]), nofun⟩
  case endBank =>
    intro hq _ _
    have hlt : s.cfg.planeCount - 1 < s.cfg.planeCount := by omega
    exact ⟨hpix, Nat.mod_lt _ hB, hlt, hdelay, hblank, rfl, fun _ => hphase (by simp [hq]), nofun⟩

/-- A clock edge keeps the invariant; the bank pins take the bank, which is in range. -/
theorem inv_edge {s : State} (h : Inv s) : Inv (edge s) := by
  obtain ⟨hv, hb, hrange, hphase, -⟩ := h
  have hgood := goodRegs_nextSeq hv hb ((goodRegs_iff s).2 ⟨hrange, hphase⟩)
  obtain ⟨hrange', hphase'⟩ := (goodRegs_iff (edge s)).1 hgood
  exact ⟨hv, hb, hrange', hphase', hrange.2.1⟩

theorem inv_iterate {s : State} (h : Inv s) (n : Nat) : Inv (edge^[n] s) := by
  induction n with
  | zero => exact h
  | succ n ih =>
    rw [Function.iterate_succ_apply']
    exact inv_edge ih

theorem live_of_inv {s : State} (h : Inv s) (hr : Running s) : Live s := by
  obtain ⟨-, -, -, hphase, -⟩ := h
  exact ⟨hr, hphase.1⟩

/-- Settles O40: the cases of a step are a clock edge under reset or with an arm, and the actions of the host. -/
theorem everyStepKeepsInvariant : Obligations.EveryStepKeepsInvariant := by
  intro s t h hst
  rcases step_cases hst with ⟨u, rest, hu, hedge⟩ | ⟨r, rest, -, -, hcon⟩ | ⟨src, rest, -, rfl⟩ | ⟨rest, -, rfl⟩ |
    ⟨rest, -, rfl⟩
  · have hinv : Inv u := by rcases hu with ⟨-, rfl⟩ | ⟨-, rfl⟩ <;> exact h
    rcases hedge with ⟨-, rfl⟩ | ⟨-, harm⟩
    · exact inv_resetRegisters hinv
    · obtain ⟨-, rfl⟩ := eq_edge_of_arm harm
      exact inv_edge hinv
  · obtain ⟨c, ha, hf, rfl⟩ := construct_eq_next hcon
    exact inv_constructed _ (validConfig_of_admitted ha hf)
  · exact h
  · exact inv_of_reset (s := (s.withHost rest).assertReset) h.1 h.2.1 rfl rfl
  · exact h

/-- Settles O44: a clock edge, a reset and a new source keep the constants, and a running machine takes no action of
the host. -/
theorem onlyConstructionWritesConstants : Obligations.OnlyConstructionWritesConstants := by
  intro s t hst
  refine ⟨fun hno => ?_, fun hr => ?_⟩
  · rcases step_cases hst with ⟨u, rest, hu, hedge⟩ | ⟨r, rest, hh, -, -⟩ | ⟨src, rest, -, rfl⟩ | ⟨rest, -, rfl⟩ |
      ⟨rest, -, rfl⟩
    · have hkept : t.request = u.request ∧ t.cfg = u.cfg ∧ t.gammaTable = u.gammaTable ∧ t.plan = u.plan := by
        rcases hedge with ⟨-, rfl⟩ | ⟨-, harm⟩
        · exact ⟨rfl, rfl, rfl, rfl⟩
        · obtain ⟨-, rfl⟩ := eq_edge_of_arm harm
          exact ⟨rfl, rfl, rfl, rfl⟩
      rcases hu with ⟨-, rfl⟩ | ⟨-, rfl⟩ <;> exact hkept
    · exact absurd hh (hno r rest)
    all_goals exact ⟨rfl, rfl, rfl, rfl⟩
  · obtain ⟨-, rfl⟩ := eq_edge_of_step hr hst
    exact hr

end Sys2Proof.Machine
end

section
/-! PROOFS. The pixel pipeline and the pins: the gamma table (40_gamma.md R112, R113, R116), the queries and lane bits
(41_color_pipeline.md R130 to R136) and the output stage (43_sequencer.md R187 to R191). -/

namespace Sys2Proof.Machine

/-! ### The gamma table -/

theorem gammaEntry_zero {c : Config} (h : 1 ≤ c.gamma) : gammaEntry c 0 = 0 := by
  rw [gammaEntry, Nat.zero_pow h, Nat.zero_mul, Nat.zero_div]

theorem gammaEntry_255 (c : Config) : gammaEntry c 255 = 2 ^ c.dstBits - 1 :=
  Nat.mul_div_cancel_left _ (Nat.pow_pos (by decide))

/-- The table does not decrease (40 R112). -/
theorem gammaEntry_mono (c : Config) {i j : Nat} (h : i ≤ j) : gammaEntry c i ≤ gammaEntry c j :=
  Nat.div_le_div_right (Nat.mul_le_mul_right _ (Nat.pow_le_pow_left h _))

theorem gammaEntry_reference_48 : gammaEntry Config.reference 48 = 0 := by decide
theorem gammaEntry_reference_49 : gammaEntry Config.reference 49 = 1 := by decide

/-- 40 R113: the reference table is dark up to 48; it does not decrease, so the entries 48 and 49 decide. -/
theorem gammaEntry_reference_eq_zero_iff (i : Nat) : gammaEntry Config.reference i = 0 ↔ i ≤ 48 := by
  constructor
  · intro h
    by_contra hi
    have hle := gammaEntry_mono Config.reference (Nat.lt_of_not_le hi)
    rw [h, Nat.succ_eq_add_one, gammaEntry_reference_49] at hle
    exact absurd hle (by decide)
  · intro h
    exact Nat.le_zero.1 (gammaEntry_reference_48 ▸ gammaEntry_mono Config.reference h)

/-- Settles O27: bounds, end points and order for every configuration, and the reference table evaluated. -/
theorem gammaTableBoundedAndMonotone : Obligations.GammaTableBoundedAndMonotone := by
  refine ⟨fun c i h => ?_, fun c h => ?_, fun c i j hij h => ?_, fun i h => ?_, ?_, by decide +kernel⟩
  · rw [gammaTableOf_get]
    exact gammaEntry_le c (Nat.le_of_lt_succ h)
  · rw [gammaTableOf_get, gammaTableOf_get]
    exact ⟨gammaEntry_zero h, gammaEntry_255 c⟩
  · rw [gammaTableOf_get, gammaTableOf_get]
    exact gammaEntry_mono c hij
  · rw [gammaTableOf_get]
    exact gammaEntry_reference_eq_zero_iff i
  · rw [gammaTableOf_get, gammaEntry_reference_49]

theorem gammaRead_le {s : State} (h : Built s) (v : Byte) : gammaRead s v ≤ 2 ^ s.cfg.dstBits - 1 := by
  rw [gammaRead_of_built h]
  exact gammaEntry_le _ (Nat.le_of_lt_succ v.isLt)

theorem gammaRead_congr {s t : State} (h : s.gammaTable = t.gammaTable) (v : Byte) : gammaRead s v = gammaRead t v := by
  rw [gammaRead, gammaRead, h]

theorem built_reset : Built State.reset := ⟨rfl, rfl⟩

theorem gammaRead_reset_128 : gammaRead State.reset 128 = 130 := by
  rw [gammaRead_of_built built_reset]
  decide

theorem planeBit_zero (s : State) : planeBit s 0 = false := Nat.zero_testBit _

/-- Settles O22: the lookup lane by lane, in an exec and in a clock edge, and the bounds of the table. -/
theorem gammaLookupReadsTable : Obligations.GammaLookupReadsTable := by
  refine ⟨fun s => ⟨s.sig.answers.map (gammaRead s), rfl, fun k c => Lanes.get_map ..⟩, fun s t hr hst k c => ?_,
    fun s v h => gammaRead_le h v, fun s h hg => ?_, fun v hv => ?_, gammaRead_reset_128⟩
  · obtain ⟨-, rfl⟩ := eq_edge_of_step hr hst
    exact ⟨rfl, Lanes.get_map ..⟩
  · rw [gammaRead_of_built h, gammaRead_of_built h]
    exact ⟨gammaEntry_zero hg, gammaEntry_255 s.cfg⟩
  · have hdark : gammaRead State.reset v = 0 := by
      rw [gammaRead_of_built built_reset]
      exact (gammaEntry_reference_eq_zero_iff _).2 hv
    refine ⟨hdark, fun s hs => ?_⟩
    rw [gammaRead_congr hs, hdark, planeBit_zero]

/-! ### Lane bits -/

theorem planeBit_toNat (s : State) (gv : Nat) : (planeBit s gv).toNat = (gv >>> s.seq.bitPlane) % 2 := by
  rw [planeBit, Nat.toNat_testBit, Nat.shiftRight_eq_div_pow]

/-- A plane at or beyond the gamma width is dark (41 R136). -/
theorem planeBit_beyond {s : State} (h : Built s) (hp : s.cfg.dstBits ≤ s.seq.bitPlane) (v : Byte) :
    planeBit s (gammaRead s v) = false := by
  have hlt : gammaRead s v < 2 ^ s.seq.bitPlane :=
    calc gammaRead s v < 2 ^ s.cfg.dstBits := Nat.lt_of_le_pred (Nat.two_pow_pos _) (gammaRead_le h v)
      _ ≤ 2 ^ s.seq.bitPlane := Nat.pow_le_pow_right (by decide) hp
  exact Nat.testBit_lt_two_pow hlt

/-- After a clock edge each lane pin is the lane decision of the cycle before it. -/
theorem nextPins_lane (s : State) (k : SubPanel) (c : Colour) :
    (nextPins s).lane.get k c = planeBit s (gammaRead s ((answersOf s).get k c)) :=
  Lanes.get_map ..

/-- Settles O23: the extracted bit as a number, in a clock edge, and at the ends of the planes. -/
theorem laneBitExtractsPlane : Obligations.LaneBitExtractsPlane := by
  refine ⟨fun s => ⟨s.sig.gv.map (planeBit s), rfl, fun k c => ?_⟩, fun s t hr hst k c => ?_, fun s gv hp => ?_,
    fun s gv hp hgv => ?_, fun s v h hp => planeBit_beyond h hp v, fun s hp => ?_, planeBit_zero,
    fun s => ⟨gammaRead_reset_128, fun hp => ?_, fun hp => ?_⟩⟩
  · rw [Lanes.get_map, planeBit_toNat]
  · obtain ⟨-, rfl⟩ := eq_edge_of_step hr hst
    exact ⟨Lanes.get_map .., rfl⟩
  · rw [planeBit_toNat, hp, Nat.shiftRight_zero]
  · rw [planeBit, hp, Nat.testBit_eq_decide_div_mod_eq, decide_eq_true_iff]
    omega
  · rw [planeBit, Nat.testBit_two_pow_sub_one, decide_eq_true hp]
  · rcases hp with hp | hp <;> rw [planeBit, hp] <;> decide
  · rw [planeBit, hp]
    decide

/-! ### The pins -/

/-- Settles O24: the decisions of the model are those of the rule. -/
theorem outputRegisterTakesDecisions : Obligations.OutputRegisterTakesDecisions := by
  intro s
  have hstb : stbDecision s = decide (s.seq.state = .latch) := by
    unfold stbDecision
    cases s.seq.state <;> rfl
  have hoe : oeDecision s = decide (s.seq.state ≠ .blank) := by
    unfold oeDecision
    cases s.seq.state <;> rfl
  rw [← hstb, ← hoe]
  rfl

theorem nextPins_stb (s : State) : (nextPins s).stb = true ↔ s.seq.state = .latch := by simp [nextPins]
theorem nextPins_oe (s : State) : (nextPins s).oe = false ↔ s.seq.state = .blank := by simp [nextPins]

/-- Settles O25: the pins after a clock edge are `nextPins` of the state before it. -/
theorem pinsLagOneCycle : Obligations.PinsLagOneCycle := by
  intro s t hr hst
  obtain ⟨-, rfl⟩ := eq_edge_of_step hr hst
  exact ⟨rfl, nextPins_stb s, nextPins_oe s, rfl, nextPins_lane s⟩

/-- Settles O48: a lane pin reads its own answer, the plane and the table. -/
theorem lanesAreIndependent : Obligations.LanesAreIndependent := by
  intro s₁ s₂ t₁ t₂ k c hr₁ hr₂ h₁ h₂ htab hplane hans
  obtain ⟨-, rfl⟩ := eq_edge_of_step hr₁ h₁
  obtain ⟨-, rfl⟩ := eq_edge_of_step hr₂ h₂
  rw [edge_out, edge_out, nextPins_lane, nextPins_lane, planeBit, planeBit, hans, hplane, gammaRead_congr htab]

/-- Settles O49: a gamma value is below the weight of every plane at or beyond the gamma width. -/
theorem planesBeyondGammaAreDark : Obligations.PlanesBeyondGammaAreDark := by
  intro s t hb hr hp hst k c
  obtain ⟨-, rfl⟩ := eq_edge_of_step hr hst
  rw [edge_out, nextPins_lane, planeBit_beyond hb hp]

/-! ### The queries -/

/-- Settles O46: the bank is below B, a power of two, so the disjunction is the sum. -/
theorem rowIndexIsSum : Obligations.RowIndexIsSum := by
  intro s j hB hbank
  have h0 : rowIndex s .sub0 = s.seq.bank := by simp [rowIndex, SubPanel.index]
  have h1 : rowIndex s .sub1 = s.seq.bank + s.cfg.bankCount := by
    rw [hB] at hbank
    rw [rowIndex, SubPanel.index, Nat.mul_one, hB, Nat.or_comm, Nat.add_comm]
    simpa using (Nat.two_pow_add_eq_or_of_lt hbank 1).symm
  refine ⟨h0, h1, fun k => ?_⟩
  cases k with
  | sub0 => omega
  | sub1 => omega

/-- What a static image answers where it has a pixel. -/
theorem answerOf_image {s : State} {rows : List (List (Rgb Byte))} {k : SubPanel} {row : List (Rgb Byte)}
    {px : Rgb Byte} (hs : s.source = .image rows) (hrow : rows[rowIndex s k]? = some row)
    (hpx : row[s.seq.pixelIndex]? = some px) : answerOf s k = px := by
  simp [answerOf, hs, sourceAnswer, hrow, hpx]

/-- Settles O47: the answers of a clock edge, by the connected source. -/
theorem queriesFollowTheSource : Obligations.QueriesFollowTheSource := by
  intro s t hr hst
  obtain ⟨-, rfl⟩ := eq_edge_of_step hr hst
  have hans (k : SubPanel) : (edge s).sig.answers.sub k = answerOf s k := answersOf_sub s k
  refine ⟨fun rows k row px hs hrow hpx => ?_, fun hs => ?_⟩
  · rw [hans, edge_source, hs]
    exact ⟨answerOf_image hs hrow hpx, rfl⟩
  · rw [hans, hans, edge_source, answerOf, answerOf, hs]
    exact ⟨rfl, rfl, rfl, rfl⟩

end Sys2Proof.Machine
end

section
/-! PROOFS. The step arms (43_sequencer.md R171 to R185): which states select an arm, what it writes, which registers
move in a clock edge, and what every instruction leaves as it was. -/

namespace Sys2Proof.Machine

/-! ### Which states select an arm -/

/-- The condition on the state under which its selector word is one of the instruction's (43 R171 to R185). -/
def ArmCond (i : Instr) (s : State) : Prop :=
  match i with
  | .idle => s.seq.state = .idle
  | .shiftWait => s.seq.state = .shiftOut ∧ s.seq.delayCounter ≠ 0
  | .shiftRise => s.seq.state = .shiftOut ∧ s.seq.delayCounter = 0 ∧ s.seq.sclk = false
  | .shiftFall => s.seq.state = .shiftOut ∧ s.seq.delayCounter = 0 ∧ s.seq.sclk = true ∧
      s.seq.pixelIndex ≠ s.cfg.chainLength - 1
  | .shiftLast => s.seq.state = .shiftOut ∧ s.seq.delayCounter = 0 ∧ s.seq.sclk = true ∧
      s.seq.pixelIndex = s.cfg.chainLength - 1
  | .latchPreWait => s.seq.state = .latchPre ∧ s.seq.delayCounter ≠ 0
  | .latchPreEnd => s.seq.state = .latchPre ∧ s.seq.delayCounter = 0
  | .latchWait => s.seq.state = .latch ∧ s.seq.delayCounter ≠ 0
  | .latchEnd => s.seq.state = .latch ∧ s.seq.delayCounter = 0
  | .latchPostWait => s.seq.state = .latchPost ∧ s.seq.delayCounter ≠ 0
  | .latchPostEnd => s.seq.state = .latchPost ∧ s.seq.delayCounter = 0
  | .blankWait => s.seq.state = .blank ∧ s.seq.blankCounter ≠ 0
  | .blankEndPlane => s.seq.state = .blank ∧ s.seq.blankCounter = 0 ∧ s.seq.bitPlane ≠ 0
  | .blankEndBank => s.seq.state = .blank ∧ s.seq.blankCounter = 0 ∧ s.seq.bitPlane = 0
  | .reservedState => s.seq.state.isReserved = true
  | .gammaLookup | .laneBit | .outputRegister => False
  | .gammaBuild | .planWait | .planIoFreq | .planTransferTime | .planFrameTime | .configValidate => False

theorem condDZ_eq_false {s : State} (h : s.seq.delayCounter ≠ 0) : condDZ s = false := beq_false_of_ne h
theorem condPL_eq_false {s : State} (h : s.seq.pixelIndex ≠ s.cfg.chainLength - 1) : condPL s = false :=
  beq_false_of_ne h
theorem condBZ_eq_false {s : State} (h : s.seq.blankCounter ≠ 0) : condBZ s = false := beq_false_of_ne h
theorem condPZ_eq_false {s : State} (h : s.seq.bitPlane ≠ 0) : condPZ s = false := beq_false_of_ne h

/-- The arm of the condition bits, by the registers they stand for. -/
theorem armOf_eq_of_armCond {i : Instr} {s : State} (h : ArmCond i s) :
    armOf s.seq.state (condDZ s) (condSC s) (condPL s) (condBZ s) (condPZ s) = i := by
  cases i
  case idle =>
    rw [show s.seq.state = .idle from h]
    rfl
  case reservedState => cases hq : s.seq.state <;> simp [ArmCond, hq, SeqState.isReserved] at h <;> rfl
  case shiftWait | latchPreWait | latchWait | latchPostWait =>
    obtain ⟨hq, hd⟩ := h
    rw [hq, condDZ_eq_false hd]
    rfl
  case latchPreEnd | latchEnd | latchPostEnd =>
    obtain ⟨hq, hd⟩ := h
    rw [hq, (condDZ_iff s).2 hd]
    rfl
  case shiftRise =>
    obtain ⟨hq, hd, hc⟩ := h
    rw [hq, (condDZ_iff s).2 hd, condSC, hc]
    rfl
  case shiftFall =>
    obtain ⟨hq, hd, hc, hp⟩ := h
    rw [hq, (condDZ_iff s).2 hd, condSC, hc, condPL_eq_false hp]
    rfl
  case shiftLast =>
    obtain ⟨hq, hd, hc, hp⟩ := h
    rw [hq, (condDZ_iff s).2 hd, condSC, hc, (condPL_iff s).2 hp]
    rfl
  case blankWait =>
    obtain ⟨hq, hb⟩ := h
    rw [hq, condBZ_eq_false hb]
    rfl
  case blankEndPlane =>
    obtain ⟨hq, hb, hp⟩ := h
    rw [hq, (condBZ_iff s).2 hb, condPZ_eq_false hp]
    rfl
  case blankEndBank =>
    obtain ⟨hq, hb, hp⟩ := h
    rw [hq, (condBZ_iff s).2 hb, (condPZ_iff s).2 hp]
    rfl
  all_goals cases h

/-- The registers behind the condition bits, by the arm these select: a case for each line of `armOf`. -/
theorem armCond_armOf (s : State) :
    ArmCond (armOf s.seq.state (condDZ s) (condSC s) (condPL s) (condBZ s) (condPZ s)) s := by
  unfold armOf
  split <;> simp_all [ArmCond, SeqState.isReserved, condDZ, condSC, condPL, condBZ, condPZ]

/-- A state's selector word decodes to an instruction exactly if the state meets the instruction's condition. -/
theorem decode_selectorWord_iff (i : Instr) (s : State) : decode (selectorWord s) = some i ↔ ArmCond i s := by
  rw [decode_selectorWord, Option.some_inj]
  constructor
  · rintro rfl
    exact armCond_armOf s
  · exact armOf_eq_of_armCond

/-- The selection of an instruction, by its row of the map and its condition. -/
theorem selectedWhen_armCond {row : ArmRow} (h : row ∈ armTable) :
    SelectedWhen row.instr row.pattern row.mask (ArmCond row.instr) :=
  ⟨decode_eq_instr_iff h, decode_selectorWord_iff row.instr⟩

/-- What an instruction writes when it is run, a clock edge of a running machine that selects it writes. -/
theorem armWrites_of_exec {i : Instr} {cond : State → Prop} {f : State → SeqRegs} (hsel : ∀ s, cond s → ArmCond i s)
    (hexec : ∀ s, cond s → exec i s = .next { s with seq := f s }) : ArmWrites i cond f := by
  intro s hs
  refine ⟨hexec s hs, fun hr => ?_⟩
  rw [stepRunsDecodedArm s i hr ((decode_selectorWord_iff i s).2 (hsel s hs)), hexec s hs]
  rfl

/-- With D = 1 the delay counter of a state in range has always run out. -/
theorem delayCounter_eq_zero {s : State} (h : InRange s) (hD : s.cfg.clkDelay = 1) : s.seq.delayCounter = 0 := by
  obtain ⟨-, -, -, hdelay, -⟩ := h
  omega

/-! ### The arms -/

/-- Settles O7: IDLE writes what the rule says; in phase the shift clock and the pixel index are 0 already, and D -
1 is 0 for D = 1. -/
theorem idleEntersShiftOut : Obligations.IdleEntersShiftOut := by
  have hwrites := armWrites_of_exec (i := .idle) (cond := ArmCond .idle) (fun _ h => h) fun _ _ => rfl
  refine ⟨selectedWhen_armCond (row := ⟨.idle, 0x00, 0xE0⟩) (by decide), hwrites, fun s h hq => ?_,
    fun s hD hq hr => ⟨_, (hwrites s hq).2 hr, ?_⟩, rfl⟩
  · obtain ⟨-, hlow, -⟩ := h
    exact hlow (by simp [hq])
  · exact Nat.sub_eq_zero_of_le hD.le

/-- Settles O8: the counter counts down; with D = 1 the counter of a state in range has run out. -/
theorem shiftWaitCountsDown : Obligations.ShiftWaitCountsDown :=
  ⟨selectedWhen_armCond (row := ⟨.shiftWait, 0x20, 0xF0⟩) (by decide),
    armWrites_of_exec (fun _ h => h) fun _ _ => rfl,
    fun s h hD hi => ((decode_selectorWord_iff _ s).1 hi).2 (delayCounter_eq_zero h hD), rfl⟩

/-- Settles O9: the clock rises and the counter is reloaded, with the rule's example. -/
theorem shiftRiseRaisesClock : Obligations.ShiftRiseRaisesClock :=
  ⟨selectedWhen_armCond (row := ⟨.shiftRise, 0x30, 0xF8⟩) (by decide),
    armWrites_of_exec (fun _ h => h) fun _ _ => rfl, rfl⟩

/-- Settles O10: in range the pixel index is below N, and SHIFT_FALL asks that it is not N - 1. -/
theorem shiftFallAdvancesPixel : Obligations.ShiftFallAdvancesPixel := by
  have hnext : ∀ s, InRange s → decode (selectorWord s) = some .shiftFall →
      s.seq.pixelIndex + 1 ≤ s.cfg.chainLength - 1 := by
    intro s ⟨hpix, _⟩ hi
    obtain ⟨-, -, -, hne⟩ := (decode_selectorWord_iff _ s).1 hi
    omega
  refine ⟨selectedWhen_armCond (row := ⟨.shiftFall, 0x38, 0xFC⟩) (by decide),
    armWrites_of_exec (fun _ h => h) fun _ _ => rfl, hnext, fun s h hN hi => ?_, rfl⟩
  have := hnext s h hi
  omega

/-- Settles O11: the chain ends and the first guard begins, with the rule's example. -/
theorem shiftLastEntersLatchPre : Obligations.ShiftLastEntersLatchPre :=
  ⟨selectedWhen_armCond (row := ⟨.shiftLast, 0x3C, 0xFC⟩) (by decide),
    armWrites_of_exec (fun _ h => h) fun _ _ => rfl, rfl⟩

/-- Settles O12: the first guard counts down; with D = 1 the counter of a state in range has run out. -/
theorem latchPreWaitCountsDown : Obligations.LatchPreWaitCountsDown :=
  ⟨selectedWhen_armCond (row := ⟨.latchPreWait, 0x40, 0xF0⟩) (by decide),
    armWrites_of_exec (fun _ h => h) fun _ _ => rfl,
    fun s h hD hi => ((decode_selectorWord_iff _ s).1 hi).2 (delayCounter_eq_zero h hD), rfl⟩

/-- Settles O13: the first guard ends, with the rule's example. -/
theorem latchPreEndEntersLatch : Obligations.LatchPreEndEntersLatch :=
  ⟨selectedWhen_armCond (row := ⟨.latchPreEnd, 0x50, 0xF0⟩) (by decide),
    armWrites_of_exec (fun _ h => h) fun _ _ => rfl, rfl⟩

/-- The strobe pin is high after every clock edge in Latch (43 R187). -/
theorem stb_of_latch {s t : State} (hr : Running s) (hst : step s = .next t) (hq : s.seq.state = .latch) :
    t.out.stb = true := by
  obtain ⟨-, rfl⟩ := eq_edge_of_step hr hst
  exact (nextPins_stb s).2 hq

/-- The enable pin is low after every clock edge in Blank (43 R187). -/
theorem oe_of_blank {s t : State} (hr : Running s) (hst : step s = .next t) (hq : s.seq.state = .blank) :
    t.out.oe = false := by
  obtain ⟨-, rfl⟩ := eq_edge_of_step hr hst
  exact (nextPins_oe s).2 hq

/-- Settles O14: the second guard counts down, with the strobe pin high. -/
theorem latchWaitCountsDown : Obligations.LatchWaitCountsDown :=
  ⟨selectedWhen_armCond (row := ⟨.latchWait, 0x60, 0xF0⟩) (by decide),
    armWrites_of_exec (fun _ h => h) fun _ _ => rfl,
    fun s _ hr hi hst => stb_of_latch hr hst ((decode_selectorWord_iff _ s).1 hi).1, rfl⟩

/-- Settles O15: the second guard ends, with the strobe pin still high. -/
theorem latchEndEntersLatchPost : Obligations.LatchEndEntersLatchPost :=
  ⟨selectedWhen_armCond (row := ⟨.latchEnd, 0x70, 0xF0⟩) (by decide),
    armWrites_of_exec (fun _ h => h) fun _ _ => rfl,
    fun s _ hr hi hst => stb_of_latch hr hst ((decode_selectorWord_iff _ s).1 hi).1, rfl⟩

/-- Settles O16: the third guard counts down; with D = 1 the counter of a state in range has run out. -/
theorem latchPostWaitCountsDown : Obligations.LatchPostWaitCountsDown :=
  ⟨selectedWhen_armCond (row := ⟨.latchPostWait, 0x80, 0xF0⟩) (by decide),
    armWrites_of_exec (fun _ h => h) fun _ _ => rfl,
    fun s h hD hi => ((decode_selectorWord_iff _ s).1 hi).2 (delayCounter_eq_zero h hD), rfl⟩

/-- Settles O17: the load is the schedule's entry less 1, which in a built core is the closed form of 42 R151. -/
theorem latchPostEndLoadsBlank : Obligations.LatchPostEndLoadsBlank := by
  refine ⟨selectedWhen_armCond (row := ⟨.latchPostEnd, 0x90, 0xF0⟩) (by decide),
    armWrites_of_exec (fun _ ⟨hq, hd, _⟩ => ⟨hq, hd⟩) fun s ⟨_, _, hb⟩ => ?_,
    fun s p w hp hw => ⟨_, rfl, ?_⟩, rfl⟩
  · rw [exec, execLatchPostEnd, blankReload, scheduleEntry_of_built hb]
    rfl
  · change scheduleEntry s - 1 = w - 1
    rw [scheduleEntry, hp, hw, Option.getD_some]

/-- Settles O18: the blank counter counts down, with the enable pin low. -/
theorem blankWaitCountsDown : Obligations.BlankWaitCountsDown :=
  ⟨selectedWhen_armCond (row := ⟨.blankWait, 0xA0, 0xE2⟩) (by decide),
    armWrites_of_exec (fun _ h => h) fun _ _ => rfl,
    fun s _ hr hi hst => oe_of_blank hr hst ((decode_selectorWord_iff _ s).1 hi).1, rfl⟩

/-- With P = 1 the bit plane of a state in range is 0. -/
theorem bitPlane_eq_zero {s : State} (h : InRange s) (hP : s.cfg.planeCount = 1) : s.seq.bitPlane = 0 := by
  obtain ⟨-, -, hplane, -⟩ := h
  omega

/-- Settles O19: the plane steps down, with the enable pin still low; with P = 1 the plane of a state in range is
0. -/
theorem blankEndPlaneStepsPlane : Obligations.BlankEndPlaneStepsPlane :=
  ⟨selectedWhen_armCond (row := ⟨.blankEndPlane, 0xA2, 0xE3⟩) (by decide),
    armWrites_of_exec (fun _ h => h) fun _ _ => rfl,
    fun s _ hr hi hst => oe_of_blank hr hst ((decode_selectorWord_iff _ s).1 hi).1,
    fun s h hP hi => ((decode_selectorWord_iff _ s).1 hi).2.2 (bitPlane_eq_zero h hP), rfl⟩

/-- Settles O20: the successor of bank B - 1 is B modulo B, and with B = 1 every bank is 0. -/
theorem blankEndBankAdvancesBank : Obligations.BlankEndBankAdvancesBank := by
  refine ⟨selectedWhen_armCond (row := ⟨.blankEndBank, 0xA3, 0xE3⟩) (by decide),
    armWrites_of_exec (fun _ h => h) fun _ _ => rfl, fun s hB hbank => ⟨_, rfl, ?_⟩, fun s hB => ⟨_, rfl, ?_⟩,
    fun s h hP hq hb => (decode_selectorWord_iff _ s).2 ⟨hq, hb, bitPlane_eq_zero h hP⟩, rfl⟩
  · change (s.seq.bank + 1) % s.cfg.bankCount = 0
    rw [hbank, Nat.sub_add_cancel hB, Nat.mod_self]
  · change (s.seq.bank + 1) % s.cfg.bankCount = 0
    rw [hB, Nat.mod_one]

/-- Settles O21: the reserved row's arm refuses, alone and in a step. -/
theorem reservedStateRefuses : Obligations.ReservedStateRefuses :=
  ⟨selectedWhen_armCond (row := ⟨.reservedState, 0xC0, 0xC0⟩) (by decide), fun _ => rfl,
    fun _ hr h => step_of_reserved hr h⟩

/-! ### Moves of single registers -/

/-- Settles O42: case by case over the arms; only SHIFT_RISE, SHIFT_FALL and SHIFT_LAST change the clock. -/
theorem shiftClockTogglesOnlyInShiftOut : Obligations.ShiftClockTogglesOnlyInShiftOut := by
  intro s t hphase hr hst
  obtain ⟨⟨-, hres⟩, rfl⟩ := eq_edge_of_step hr hst
  obtain ⟨-, hlow, -⟩ := hphase
  rw [edge_seq]
  refine nextSeq_cases (fun r => r.sclk ≠ s.seq.sclk ↔ s.seq.state = .shiftOut ∧ s.seq.delayCounter = 0) hres ?idle
    ?wait ?rise ?fall ?last ?preEnd ?latchEnd ?postEnd ?blankWait ?endPlane ?endBank
  case idle =>
    intro hq
    have hc : s.seq.sclk = false := (hlow (by simp [hq])).1
    simp [hq, hc]
  case wait => exact fun _ hd => by simp [hd]
  case rise => exact fun hq hd hc => by simp [hq, hd, hc]
  case fall => exact fun hq hd hc _ => by simp [hq, hd, hc]
  case last => exact fun hq hd hc _ => by simp [hq, hd, hc]
  all_goals
    intro hq
    simp [hq]

/-- Settles O43: case by case over the arms; only BLANK_END_PLANE and BLANK_END_BANK move plane or bank. -/
theorem planeAndBankMoveOnlyAtBlankEnd : Obligations.PlaneAndBankMoveOnlyAtBlankEnd := by
  intro s t hr hst
  obtain ⟨⟨-, hres⟩, rfl⟩ := eq_edge_of_step hr hst
  rw [edge_seq]
  refine ⟨fun ⟨hq, hb, hp⟩ => ?_, fun ⟨hq, hb, hp⟩ => ?_, fun hno => ?_⟩
  · rw [nextSeq_endBank hq hb hp]
    exact ⟨rfl, rfl⟩
  · rw [nextSeq_endPlane hq hb hp]
    exact ⟨rfl, Nat.sub_add_cancel (Nat.pos_of_ne_zero hp)⟩
  · refine nextSeq_cases (fun r => r.bank = s.seq.bank ∧ r.bitPlane = s.seq.bitPlane) hres ?idle ?wait ?rise ?fall
      ?last ?preEnd ?latchEnd ?postEnd ?blankWait ?endPlane ?endBank
    case endPlane => exact fun hq hb _ => absurd hno (by simp [hq, hb])
    case endBank => exact fun hq hb _ => absurd hno (by simp [hq, hb])
    all_goals
      intros
      exact ⟨rfl, rfl⟩

/-! ### Frames -/

/-- The one next state CONFIG_VALIDATE can have. -/
theorem execConfigValidate_eq_next {s t : State} (h : execConfigValidate s = .next t) :
    ∃ c, admitRequest s.request = .ok c ∧ firstFailure c = none ∧ t = s.withCfg c := by
  cases ha : admitRequest s.request with
  | error f => rw [execConfigValidate_of_refused ha] at h; cases h
  | ok c =>
    obtain ⟨hfault, hnext⟩ := execConfigValidate_of_admitted ha
    cases hf : firstFailure c with
    | some k => rw [hfault k hf] at h; cases h
    | none =>
      rw [hnext hf] at h
      cases h
      exact ⟨c, rfl, hf, rfl⟩

/-- Settles O45: instruction by instruction, the next state is written out, and the frame is read off. -/
theorem instructionFrames : Obligations.InstructionFrames := by
  intro i s t h
  cases i
  case reservedState => cases h
  case configValidate =>
    obtain ⟨c, -, -, rfl⟩ := execConfigValidate_eq_next h
    simp [Instr.rowClass, State.withCfg]
  all_goals
    cases h
    simp [Instr.rowClass, State.withSeq, State.withGv, State.withLane, State.withOut, State.withGammaTable,
      State.withPlan]

end Sys2Proof.Machine
end

section
/-! PROOFS. The plane period, register by register (43_sequencer.md R192, R194). From Idle the machine goes through
`2 N + 3` half-periods of D cycles each, the `2 N` of the shift clock and the three guards, and then through the cycles
of Blank. -/

namespace Sys2Proof.Machine

/-! ### Half-periods and Blank -/

/-- The state in half-period q of the plane period. -/
def halfPeriodState (c : Config) (q : Nat) : SeqState :=
  if q < 2 * c.chainLength then .shiftOut
  else if q = 2 * c.chainLength then .latchPre
  else if q = 2 * c.chainLength + 1 then .latch
  else .latchPost

section
variable (c : Config)

theorem halfPeriodState_shift {q : Nat} (h : q < 2 * c.chainLength) : halfPeriodState c q = .shiftOut :=
  if_pos h

theorem halfPeriodState_pre : halfPeriodState c (2 * c.chainLength) = .latchPre := by simp [halfPeriodState]

theorem halfPeriodState_latch : halfPeriodState c (2 * c.chainLength + 1) = .latch := by simp [halfPeriodState]

theorem halfPeriodState_post : halfPeriodState c (2 * c.chainLength + 2) = .latchPost := by
  have h : ¬ 2 * c.chainLength + 2 < 2 * c.chainLength := by omega
  simp [halfPeriodState, h]

end

/-- The registers in cycle e of half-period q of the plane period that starts from the Idle registers r. -/
def halfPeriodRegs (c : Config) (r : SeqRegs) (q e : Nat) : SeqRegs :=
  { r with
    state := halfPeriodState c q
    pixelIndex := if q < 2 * c.chainLength then q / 2 else 0
    delayCounter := c.clkDelay - 1 - e
    sclk := decide (q < 2 * c.chainLength ∧ q % 2 = 1) }

theorem halfPeriodRegs_guard {c : Config} {q : Nat} (r : SeqRegs) (e : Nat) (h : 2 * c.chainLength ≤ q) :
    halfPeriodRegs c r q e = { r with
      state := halfPeriodState c q, pixelIndex := 0, delayCounter := c.clkDelay - 1 - e, sclk := false } := by
  simp only [halfPeriodRegs, Nat.not_lt.2 h, if_false, false_and, decide_false]

/-- The registers in cycle b of Blank of that plane period. -/
def blankRegs (c : Config) (r : SeqRegs) (b : Nat) : SeqRegs :=
  { r with
    state := .blank
    pixelIndex := 0
    delayCounter := c.clkDelay - 1
    sclk := false
    blankCounter := waitCycles c r.bitPlane - (b + 1) }

/-- The length of a plane period (42 R160): Idle, the half-periods, and Blank. -/
theorem planeCycles_eq (c : Config) (p : Nat) :
    planeCycles c p = (2 * c.chainLength + 3) * c.clkDelay + waitCycles c p + 1 := by
  rw [planeCycles, Nat.add_mul]
  omega

/-- A cycle is before the end of the k-th half-period exactly if its half-period is one of the first k. -/
theorem halfPeriod_le_iff {D q e : Nat} (he : e < D) (k : Nat) : q * D + e + 1 ≤ k * D ↔ q < k := by
  constructor
  · intro h
    by_contra hk
    have := Nat.mul_le_mul_right D (Nat.le_of_not_lt hk)
    omega
  · intro h
    have := Nat.mul_le_mul_right D (Nat.succ_le_of_lt h)
    rw [Nat.succ_mul] at this
    omega

/-- The timeline in cycle e of half-period q. -/
theorem planeTimeline_halfPeriod {c : Config} {q e : Nat} (r : SeqRegs) (hq : q < 2 * c.chainLength + 3)
    (he : e < c.clkDelay) : planeTimeline c r (q * c.clkDelay + e + 1) = halfPeriodRegs c r q e := by
  have hdiv : (q * c.clkDelay + e) / c.clkDelay = q := by
    rw [Nat.mul_comm, Nat.mul_add_div (by omega), Nat.div_eq_of_lt he, Nat.add_zero]
  have hmod : (q * c.clkDelay + e) % c.clkDelay = e := by
    rw [Nat.mul_comm, Nat.mul_add_mod, Nat.mod_eq_of_lt he]
  have hpix : (q * c.clkDelay + e) / (2 * c.clkDelay) = q / 2 := by
    rw [Nat.mul_comm 2, ← Nat.div_div_eq_div_mul, hdiv]
  have hlast : 2 * c.chainLength * c.clkDelay + 3 * c.clkDelay = (2 * c.chainLength + 3) * c.clkDelay :=
    (Nat.add_mul ..).symm
  have hlatch : 2 * c.chainLength * c.clkDelay + 2 * c.clkDelay = (2 * c.chainLength + 2) * c.clkDelay :=
    (Nat.add_mul ..).symm
  have hpre : 2 * c.chainLength * c.clkDelay + c.clkDelay = (2 * c.chainLength + 1) * c.clkDelay :=
    (Nat.succ_mul ..).symm
  simp only [planeTimeline, Nat.add_sub_cancel, hdiv, hmod, hpix, hlast, hlatch, hpre, halfPeriod_le_iff he]
  by_cases hs : q < 2 * c.chainLength
  · simp only [halfPeriodRegs, halfPeriodState, hs, if_true, true_and]
  · have hstate : (if q < 2 * c.chainLength + 1 then SeqState.latchPre
        else if q < 2 * c.chainLength + 2 then .latch else .latchPost) = halfPeriodState c q := by
      unfold halfPeriodState
      split_ifs <;> first | rfl | omega
    simp only [halfPeriodRegs, hs, hq, hstate, if_true, if_false, false_and, decide_false]

/-- The timeline in cycle b of Blank. -/
theorem planeTimeline_blank {c : Config} (r : SeqRegs) (b : Nat) :
    planeTimeline c r ((2 * c.chainLength + 3) * c.clkDelay + b + 1) = blankRegs c r b := by
  have hlast : 2 * c.chainLength * c.clkDelay + 3 * c.clkDelay = (2 * c.chainLength + 3) * c.clkDelay :=
    (Nat.add_mul ..).symm
  have hshift : ¬ (2 * c.chainLength + 3) * c.clkDelay + b + 1 ≤ 2 * c.chainLength * c.clkDelay := by omega
  have hguard : ¬ (2 * c.chainLength + 3) * c.clkDelay + b + 1 ≤ (2 * c.chainLength + 3) * c.clkDelay := by omega
  have hsub : (2 * c.chainLength + 3) * c.clkDelay + b + 1 - (2 * c.chainLength + 3) * c.clkDelay = b + 1 := by omega
  simp only [planeTimeline, hlast, hshift, hguard, hsub, if_false, blankRegs]

/-- Every cycle of a plane period after its Idle is in a half-period or in Blank. -/
theorem cycle_of_planePeriod {c : Config} {p n : Nat} (hD : 1 ≤ c.clkDelay) (h1 : 1 ≤ n) (hn : n < planeCycles c p) :
    (∃ q e, q < 2 * c.chainLength + 3 ∧ e < c.clkDelay ∧ n = q * c.clkDelay + e + 1) ∨
    ∃ b, b < waitCycles c p ∧ n = (2 * c.chainLength + 3) * c.clkDelay + b + 1 := by
  rw [planeCycles_eq] at hn
  by_cases h : n - 1 < (2 * c.chainLength + 3) * c.clkDelay
  · refine .inl ⟨(n - 1) / c.clkDelay, (n - 1) % c.clkDelay, Nat.div_lt_of_lt_mul (by rwa [Nat.mul_comm]),
      Nat.mod_lt _ hD, ?_⟩
    rw [Nat.div_add_mod']
    omega
  · exact .inr ⟨n - 1 - (2 * c.chainLength + 3) * c.clkDelay, by omega, by omega⟩

/-! ### A clock edge within the plane period -/

theorem halfPeriodState_isTimed (c : Config) (q : Nat) : (halfPeriodState c q).isTimed = true := by
  unfold halfPeriodState
  split_ifs <;> rfl

section
variable {s : State} {r : SeqRegs}

/-- From Idle into the first half-period. -/
theorem nextSeq_of_idle (hN : 1 ≤ s.cfg.chainLength) (h : s.seq.state = .idle) :
    nextSeq s = halfPeriodRegs s.cfg s.seq 0 0 := by
  have h0 : 0 < 2 * s.cfg.chainLength := by omega
  rw [nextSeq_idle h]
  simp [halfPeriodRegs, halfPeriodState, h0]

/-- Within a half-period the delay counter runs. -/
theorem nextSeq_in_halfPeriod {q e : Nat} (h : s.seq = halfPeriodRegs s.cfg r q e) (he : e + 1 < s.cfg.clkDelay) :
    nextSeq s = halfPeriodRegs s.cfg r q (e + 1) := by
  have hd : s.seq.delayCounter ≠ 0 := by
    rw [h]
    simp only [halfPeriodRegs]
    omega
  rw [nextSeq_wait (by rw [h]; exact halfPeriodState_isTimed ..) hd, h]
  simp only [halfPeriodRegs, Nat.sub_sub, Nat.add_assoc]

/-- The last cycle of a half-period of the shift clock: it toggles, and after the last pixel the guards begin. -/
theorem nextSeq_shift_end {q e : Nat} (h : s.seq = halfPeriodRegs s.cfg r q e) (he : e + 1 = s.cfg.clkDelay)
    (hq : q < 2 * s.cfg.chainLength) : nextSeq s = halfPeriodRegs s.cfg r (q + 1) 0 := by
  have hstate : s.seq.state = .shiftOut := by
    rw [h]
    exact if_pos hq
  have hd : s.seq.delayCounter = 0 := by
    rw [h]
    simp only [halfPeriodRegs]
    omega
  have hpix : s.seq.pixelIndex = q / 2 := by
    rw [h]
    exact if_pos hq
  have hclk : s.seq.sclk = decide (q % 2 = 1) := by simp [h, halfPeriodRegs, hq]
  rcases Nat.mod_two_eq_zero_or_one q with hlow | hhigh
  · have hq' : q + 1 < 2 * s.cfg.chainLength := by omega
    rw [nextSeq_rise hstate hd (by simp [hclk, hlow]), h]
    simp only [halfPeriodRegs, halfPeriodState, hq, hq', if_true, true_and, Nat.sub_zero]
    congr 1
    · omega
    · simp only [true_eq_decide_iff]
      omega
  · have hhi : s.seq.sclk = true := by simp [hclk, hhigh]
    by_cases hlast : q + 1 < 2 * s.cfg.chainLength
    · rw [nextSeq_fall hstate hd hhi (by omega), h]
      simp only [halfPeriodRegs, halfPeriodState, hq, hlast, if_true, true_and, Nat.sub_zero]
      congr 1
      · omega
      · simp only [false_eq_decide_iff]
        omega
    · have hend : q + 1 = 2 * s.cfg.chainLength := by omega
      rw [nextSeq_last hstate hd hhi (by omega), h, hend]
      simp [halfPeriodRegs, halfPeriodState]

/-- The last cycle of a guard before the last one. -/
theorem nextSeq_guard_end {q e : Nat} (h : s.seq = halfPeriodRegs s.cfg r q e) (he : e + 1 = s.cfg.clkDelay)
    (hlow : 2 * s.cfg.chainLength ≤ q) (hq : q < 2 * s.cfg.chainLength + 2) :
    nextSeq s = halfPeriodRegs s.cfg r (q + 1) 0 := by
  have hd : s.seq.delayCounter = 0 := by
    rw [h]
    simp only [halfPeriodRegs]
    omega
  rw [halfPeriodRegs_guard r e hlow] at h
  rw [halfPeriodRegs_guard r 0 (hlow.trans (Nat.le_succ q))]
  rcases (by omega : q = 2 * s.cfg.chainLength ∨ q = 2 * s.cfg.chainLength + 1) with rfl | rfl
  · rw [nextSeq_preEnd (by rw [h, halfPeriodState_pre]) hd, h, halfPeriodState_latch]
    rfl
  · rw [nextSeq_latchEnd (by rw [h, halfPeriodState_latch]) hd, h, halfPeriodState_post]
    rfl

/-- The last cycle of the last guard loads the blank counter. -/
theorem nextSeq_post_end {e : Nat} (hb : Built s)
    (h : s.seq = halfPeriodRegs s.cfg r (2 * s.cfg.chainLength + 2) e) (he : e + 1 = s.cfg.clkDelay) :
    nextSeq s = blankRegs s.cfg r 0 := by
  have hd : s.seq.delayCounter = 0 := by
    rw [h]
    simp only [halfPeriodRegs]
    omega
  have hp : s.seq.bitPlane = r.bitPlane := by rw [h]; rfl
  rw [halfPeriodRegs_guard r e (Nat.le_add_right _ 2)] at h
  rw [nextSeq_postEnd (by rw [h, halfPeriodState_post]) hd, blankReload, scheduleEntry_of_built hb, hp, h]
  rfl

/-- Within Blank the blank counter runs. -/
theorem nextSeq_in_blank {b : Nat} (h : s.seq = blankRegs s.cfg r b) (hb : b + 1 < waitCycles s.cfg r.bitPlane) :
    nextSeq s = blankRegs s.cfg r (b + 1) := by
  have hc : s.seq.blankCounter ≠ 0 := by
    rw [h]
    simp only [blankRegs]
    omega
  rw [nextSeq_blankWait (by rw [h]; rfl) hc, h]
  simp only [blankRegs, Nat.sub_sub]

/-- The last cycle of Blank goes to the Idle of the next plane or the next bank. -/
theorem nextSeq_blank_end {b : Nat} (h : s.seq = blankRegs s.cfg r b) (hb : b + 1 = waitCycles s.cfg r.bitPlane) :
    nextSeq s = nextPlaneRegs s.cfg r := by
  have hc : s.seq.blankCounter = 0 := by
    rw [h]
    simp only [blankRegs]
    omega
  have hp : s.seq.bitPlane = r.bitPlane := by rw [h]; rfl
  have hzero : waitCycles s.cfg r.bitPlane - (b + 1) = 0 := by omega
  by_cases hz : r.bitPlane = 0
  · rw [nextSeq_endBank (by rw [h]; rfl) hc (hp.trans hz), h]
    simp only [blankRegs, nextPlaneRegs, hzero, if_pos hz]
  · rw [nextSeq_endPlane (by rw [h]; rfl) hc (by rwa [hp]), h]
    simp only [blankRegs, nextPlaneRegs, hzero, if_neg hz]

end

/-- The next cycle of the timeline, up to the last cycle of Blank. -/
theorem nextSeq_planeTimeline {s : State} {r : SeqRegs} {n : Nat} (hD : 1 ≤ s.cfg.clkDelay) (hb : Built s)
    (h1 : 1 ≤ n) (hn : n + 1 < planeCycles s.cfg r.bitPlane) (h : s.seq = planeTimeline s.cfg r n) :
    nextSeq s = planeTimeline s.cfg r (n + 1) := by
  rcases cycle_of_planePeriod hD h1 (Nat.lt_of_succ_lt hn) with ⟨q, e, hq, he, rfl⟩ | ⟨b, hbw, rfl⟩
  · rw [planeTimeline_halfPeriod r hq he] at h
    by_cases hlast : e + 1 < s.cfg.clkDelay
    · rw [nextSeq_in_halfPeriod h hlast]
      exact (planeTimeline_halfPeriod r hq hlast).symm
    have hend : e + 1 = s.cfg.clkDelay := by omega
    have hnext : q * s.cfg.clkDelay + e + 1 + 1 = (q + 1) * s.cfg.clkDelay + 0 + 1 := by
      rw [Nat.succ_mul]
      omega
    rw [hnext]
    by_cases hpost : q = 2 * s.cfg.chainLength + 2
    · subst hpost
      rw [nextSeq_post_end hb h hend, ← planeTimeline_blank r 0]
    · rw [planeTimeline_halfPeriod r (by omega) hD]
      by_cases hs : q < 2 * s.cfg.chainLength
      · exact nextSeq_shift_end h hend hs
      · exact nextSeq_guard_end h hend (by omega) (by omega)
  · rw [planeTimeline_blank] at h
    rw [planeCycles_eq] at hn
    rw [nextSeq_in_blank h (by omega)]
    exact (planeTimeline_blank r (b + 1)).symm

/-! ### The timeline of registers -/

/-- From Idle the registers follow the timeline, up to the last cycle of Blank. -/
theorem iterate_edge_seq_eq_planeTimeline {s : State} (h : Inv s) (hq : s.seq.state = .idle) {n : Nat} (h1 : 1 ≤ n)
    (hn : n < planeCycles s.cfg s.seq.bitPlane) : (edge^[n] s).seq = planeTimeline s.cfg s.seq n := by
  obtain ⟨⟨hN, -, -, hD, -⟩, hb, -⟩ := h
  induction n, h1 using Nat.le_induction with
  | base =>
    have hfirst := planeTimeline_halfPeriod (c := s.cfg) s.seq (q := 0) (e := 0) (by omega) hD
    rw [Nat.zero_mul] at hfirst
    exact (nextSeq_of_idle hN hq).trans hfirst.symm
  | succ n h1 ih =>
    rw [Function.iterate_succ_apply', edge_seq]
    have hstep := nextSeq_planeTimeline (s := edge^[n] s) (r := s.seq) (n := n) (by simpa) (built_iterate hb n) h1
      (by simpa) (by simpa using ih (Nat.lt_of_succ_lt hn))
    simpa using hstep

/-- Settles O52: by induction on the cycles, one clock edge of the timeline at a time. -/
theorem planePeriodRegisterTimeline : Obligations.PlanePeriodRegisterTimeline := by
  intro s n h hr hq h1 hn
  have hlive := live_of_inv h hr
  exact ⟨edge^[n] s, cycles_of_live hlive n, iterate_edge_seq_eq_planeTimeline h hq h1 hn,
    (live_iterate hlive n).1, iterate_edge_cfg n s⟩

end Sys2Proof.Machine
end

section
/-! PROOFS. The pins in every cycle of the plane period (43_sequencer.md R195, R196, R198): the pins of a cycle are the
decisions of the registers one cycle before. -/

namespace Sys2Proof.Machine

/-- The pins after at least one clock edge are those the registers before the last one decide. -/
theorem pinsOf_cycles_succ {s : State} (h : Live s) (k : Nat) :
    pinsOf (cycles (k + 1) s) = some (nextPins (edge^[k] s)) := by
  rw [cycles_of_live h, Function.iterate_succ_apply']
  rfl

/-! ### The windows of the timeline -/

/-- A cycle is seen at the pins, one cycle later, from half-period a up to half-period b exactly if its half-period is
one of those. -/
theorem halfPeriod_window {D q e : Nat} (he : e < D) (a b : Nat) :
    a * D + 2 ≤ q * D + e + 1 + 1 ∧ q * D + e + 1 + 1 ≤ b * D + 1 ↔ a ≤ q ∧ q < b := by
  have ha := halfPeriod_le_iff (q := q) he a
  have hb := halfPeriod_le_iff (q := q) he b
  omega

theorem halfPeriodState_eq_latch (c : Config) (q : Nat) :
    halfPeriodState c q = .latch ↔ q = 2 * c.chainLength + 1 := by
  unfold halfPeriodState
  split_ifs <;> simp <;> omega

theorem halfPeriodState_ne_blank (c : Config) (q : Nat) : halfPeriodState c q ≠ .blank := by
  unfold halfPeriodState
  split_ifs <;> simp

theorem planeTimeline_kept (c : Config) (r : SeqRegs) (n : Nat) :
    (planeTimeline c r n).bank = r.bank ∧ (planeTimeline c r n).bitPlane = r.bitPlane := by
  unfold planeTimeline
  dsimp only
  split_ifs <;> exact ⟨rfl, rfl⟩

section
variable {c : Config} {r : SeqRegs} {k : Nat} (hD : 1 ≤ c.clkDelay) (h1 : 1 ≤ k) (hk : k < planeCycles c r.bitPlane)
include hD h1 hk

/-- No cycle of the plane period after the first is at Idle. -/
theorem planeTimeline_not_idle : (planeTimeline c r k).state ≠ .idle := by
  rcases cycle_of_planePeriod hD h1 hk with ⟨q, e, hq, he, rfl⟩ | ⟨b, -, rfl⟩
  · rw [planeTimeline_halfPeriod r hq he]
    intro h
    have := halfPeriodState_isTimed c q
    rw [show halfPeriodState c q = .idle from h] at this
    cases this
  · rw [planeTimeline_blank]
    exact nofun

/-- 43 R195: Latch is the second guard. -/
theorem planeTimeline_latch_iff : (planeTimeline c r k).state = .latch ↔
    2 * c.chainLength * c.clkDelay + c.clkDelay + 2 ≤ k + 1 ∧
      k + 1 ≤ 2 * c.chainLength * c.clkDelay + 2 * c.clkDelay + 1 := by
  rw [← Nat.succ_mul, ← Nat.add_mul]
  rcases cycle_of_planePeriod hD h1 hk with ⟨q, e, hq, he, rfl⟩ | ⟨b, -, rfl⟩
  · rw [planeTimeline_halfPeriod r hq he, halfPeriod_window he]
    exact (halfPeriodState_eq_latch c q).trans (by omega)
  · have hle : (2 * c.chainLength + 2) * c.clkDelay ≤ (2 * c.chainLength + 3) * c.clkDelay :=
      Nat.mul_le_mul_right _ (by omega)
    rw [planeTimeline_blank]
    exact iff_of_false nofun (by omega)

/-- 43 R196: Blank is what follows the half-periods. -/
theorem planeTimeline_blank_iff : (planeTimeline c r k).state = .blank ↔
    2 * c.chainLength * c.clkDelay + 3 * c.clkDelay + 2 ≤ k + 1 ∧
      k + 1 ≤ 2 * c.chainLength * c.clkDelay + 3 * c.clkDelay + waitCycles c r.bitPlane + 1 := by
  rw [← Nat.add_mul]
  rcases cycle_of_planePeriod hD h1 hk with ⟨q, e, hq, he, rfl⟩ | ⟨b, hb, rfl⟩
  · have hle := (halfPeriod_le_iff he _).2 hq
    rw [planeTimeline_halfPeriod r hq he]
    exact iff_of_false (halfPeriodState_ne_blank c q) (by omega)
  · rw [planeTimeline_blank]
    exact iff_of_true rfl (by omega)

/-- 43 R198: the shift clock is high in the second half-period of each pixel. -/
theorem planeTimeline_sclk_iff : (planeTimeline c r k).sclk = true ↔
    ∃ i, i < c.chainLength ∧ (2 * i + 1) * c.clkDelay + 2 ≤ k + 1 ∧ k + 1 ≤ (2 * i + 2) * c.clkDelay + 1 := by
  rcases cycle_of_planePeriod hD h1 hk with ⟨q, e, hq, he, rfl⟩ | ⟨b, -, rfl⟩
  · simp only [planeTimeline_halfPeriod r hq he, halfPeriodRegs, decide_eq_true_iff, halfPeriod_window he]
    constructor
    · rintro ⟨hs, hodd⟩
      exact ⟨q / 2, by omega, by omega, by omega⟩
    · rintro ⟨i, hi, hlow, hhigh⟩
      exact ⟨by omega, by omega⟩
  · rw [planeTimeline_blank]
    refine iff_of_false nofun ?_
    rintro ⟨i, hi, -, hhigh⟩
    have hle : (2 * i + 2) * c.clkDelay ≤ (2 * c.chainLength + 3) * c.clkDelay := Nat.mul_le_mul_right _ (by omega)
    omega

end

/-! ### The timelines of the pins -/

/-- Settles O53: cycle 1 shows Idle, where no window is open, and every later cycle the timeline one cycle before. -/
theorem planePeriodPinTimeline : Obligations.PlanePeriodPinTimeline := by
  intro s n h hr hq h1 hn
  obtain ⟨k, rfl⟩ : ∃ k, n = k + 1 := ⟨n - 1, by omega⟩
  have hlive := live_of_inv h hr
  have hD := clkDelay_pos h
  refine ⟨nextPins (edge^[k] s), pinsOf_cycles_succ hlive k, ?_⟩
  rw [nextPins_stb, nextPins_oe]
  change (edge^[k] s).seq.bank = _ ∧ _ ∧ _ ∧ ((edge^[k] s).seq.sclk = true ↔ _)
  cases k with
  | zero =>
    obtain ⟨-, -, -, ⟨-, hlow, -⟩, -⟩ := h
    have hclk : s.seq.sclk = false := (hlow (by simp [hq])).1
    refine ⟨rfl, iff_of_false (by simp [hq]) (by omega), iff_of_false (by simp [hq]) (by omega),
      iff_of_false (by simp [hclk]) ?_⟩
    rintro ⟨i, -, hi, -⟩
    omega
  | succ k =>
    have hk : 1 ≤ k + 1 := Nat.le_add_left 1 k
    rw [iterate_edge_seq_eq_planeTimeline h hq hk hn]
    exact ⟨(planeTimeline_kept ..).1, planeTimeline_latch_iff hD hk hn, planeTimeline_blank_iff hD hk hn,
      planeTimeline_sclk_iff hD hk hn⟩

/-- A static image stays connected. -/
theorem iterate_edge_image {s : State} {rows : List (List (Rgb Byte))} (h : s.source = .image rows) (n : Nat) :
    (edge^[n] s).source = .image rows := by
  induction n with
  | zero => exact h
  | succ n ih => rw [Function.iterate_succ_apply', edge_source, ih]; rfl

/-- In the two half-periods of pixel i the pixel index is i (43 R198). -/
theorem planeTimeline_pixelIndex {c : Config} {r : SeqRegs} {i k : Nat} (hD : 1 ≤ c.clkDelay)
    (hi : i < c.chainLength) (hlow : 2 * i * c.clkDelay + 2 ≤ k + 1) (hhigh : k + 1 ≤ (2 * i + 2) * c.clkDelay + 1) :
    k < planeCycles c r.bitPlane ∧ (planeTimeline c r k).pixelIndex = i := by
  have hk : k < planeCycles c r.bitPlane := by
    have hle : (2 * i + 2) * c.clkDelay ≤ (2 * c.chainLength + 3) * c.clkDelay := Nat.mul_le_mul_right _ (by omega)
    rw [planeCycles_eq]
    omega
  refine ⟨hk, ?_⟩
  rcases cycle_of_planePeriod hD (by omega) hk with ⟨q, e, hq, he, rfl⟩ | ⟨b, -, rfl⟩
  · obtain ⟨hiq, hqi⟩ := (halfPeriod_window he _ _).1 ⟨hlow, hhigh⟩
    have hs : q < 2 * c.chainLength := by omega
    rw [planeTimeline_halfPeriod r hq he, halfPeriodRegs]
    simp only [hs, if_true]
    omega
  · have hle : (2 * i + 2) * c.clkDelay ≤ (2 * c.chainLength + 3) * c.clkDelay := Nat.mul_le_mul_right _ (by omega)
    omega

/-- Settles O54: in those cycles the query is for pixel i of the rows of the bank, and the lane pins show its bits. -/
theorem lanesCarryPixelDuringItsClock : Obligations.LanesCarryPixelDuringItsClock := by
  intro s rows i n h hr hq hs hi hlow hhigh
  obtain ⟨k, rfl⟩ : ∃ k, n = k + 1 := ⟨n - 1, by omega⟩
  have hD := clkDelay_pos h
  obtain ⟨hk, hpix⟩ := planeTimeline_pixelIndex (r := s.seq) hD hi hlow hhigh
  refine ⟨nextPins (edge^[k] s), pinsOf_cycles_succ (live_of_inv h hr) k, fun sub row px hrow hpx c => ?_⟩
  have hseq := iterate_edge_seq_eq_planeTimeline h hq (by omega : 1 ≤ k) hk
  obtain ⟨hbank, hplane⟩ := planeTimeline_kept s.cfg s.seq k
  have hrowk : rowIndex (edge^[k] s) sub = rowIndex s sub := by
    rw [rowIndex, rowIndex, hseq, hbank, iterate_edge_cfg]
  have hans : answerOf (edge^[k] s) sub = px :=
    answerOf_image (iterate_edge_image hs k) (by rw [hrowk, hrow]) (by rw [hseq, hpix, hpx])
  rw [nextPins_lane, answersOf_get, hans, planeBit, hseq, hplane, gammaRead_congr (iterate_edge_gammaTable k s)]

end Sys2Proof.Machine
end

section
/-! PROOFS. Plane periods in a row (43_sequencer.md R197 to R202): a plane period ends at the Idle of the next plane or
bank, P of them are a bank sweep, B sweeps are a frame. -/

namespace Sys2Proof.Machine

/-! ### One plane period -/

/-- The clock edge after the last cycle of Blank completes the plane period. -/
theorem iterate_edge_planePeriod {s : State} (h : Inv s) (hq : s.seq.state = .idle) :
    (edge^[planeCycles s.cfg s.seq.bitPlane] s).seq = nextPlaneRegs s.cfg s.seq := by
  obtain ⟨b, hb⟩ : ∃ b, b + 1 = waitCycles s.cfg s.seq.bitPlane := ⟨_, Nat.sub_add_cancel (waitCycles_pos ..)⟩
  obtain ⟨n, hn⟩ : ∃ n, n = (2 * s.cfg.chainLength + 3) * s.cfg.clkDelay + b + 1 := ⟨_, rfl⟩
  have hlen : planeCycles s.cfg s.seq.bitPlane = n + 1 := by
    rw [planeCycles_eq, ← hb, hn]
    omega
  have hlast : (edge^[n] s).seq = blankRegs s.cfg s.seq b := by
    rw [iterate_edge_seq_eq_planeTimeline h hq (by omega) (by omega), hn, planeTimeline_blank]
  have hend : nextSeq (edge^[n] s) = nextPlaneRegs (edge^[n] s).cfg s.seq :=
    nextSeq_blank_end (b := b) (by rw [iterate_edge_cfg, hlast]) (by rw [iterate_edge_cfg, hb])
  rw [hlen, Function.iterate_succ_apply', edge_seq, hend, iterate_edge_cfg]

/-- Settles O55: the last cycle of the timeline goes to the next Idle, and no cycle of the timeline is one. -/
theorem planePeriodReachesNextIdle : Obligations.PlanePeriodReachesNextIdle := by
  intro s h hr hq
  have hlive := live_of_inv h hr
  refine ⟨⟨_, cycles_of_live hlive _, iterate_edge_planePeriod h hq, (live_iterate hlive _).1, inv_iterate h _,
    iterate_edge_cfg _ s⟩, fun n t h1 hn ht => ?_⟩
  rw [cycles_of_live hlive] at ht
  cases ht
  rw [iterate_edge_seq_eq_planeTimeline h hq h1 hn]
  exact planeTimeline_not_idle (clkDelay_pos h) h1 hn

/-! ### The length of a bank sweep -/

/-- 42 R160: the plane periods of a bank sweep add up, whatever their order. -/
theorem bankCycles_eq_sum (c : Config) : bankCycles c = ((List.range c.planeCount).map (planeCycles c)).sum := by
  have hsplit : ((List.range c.planeCount).map (planeCycles c)).sum =
      c.planeCount * (1 + 2 * c.chainLength * c.clkDelay + 3 * c.clkDelay) + (waitSchedule c).sum := by
    rw [waitSchedule]
    unfold planeCycles
    rw [List.sum_map_add, List.map_const', List.sum_replicate, List.length_range, smul_eq_mul]
  rw [hsplit, waitSchedule_sum, bankCycles]

/-- Settles O33: the sum of the plane periods in closed form, and the reference numbers evaluated. -/
theorem realPeriodsAddUp : Obligations.RealPeriodsAddUp := by
  refine ⟨bankCycles_eq_sum, fun _ => rfl, by decide, by decide, by decide, ?_, ?_⟩
  · norm_num [refreshRateOf, frameTimeOf_eq, Config.reference]
  · norm_num [blankingTimeOf_eq, Config.reference]

/-- The cycles of the first j plane periods of a bank sweep, from plane P - 1 down. -/
def sweepCycles (c : Config) (j : Nat) : Nat :=
  ((List.range j).map fun m => planeCycles c (c.planeCount - 1 - m)).sum

theorem sweepCycles_succ (c : Config) (j : Nat) :
    sweepCycles c (j + 1) = sweepCycles c j + planeCycles c (c.planeCount - 1 - j) := by
  simp [sweepCycles, List.range_succ]

theorem sweepCycles_planeCount (c : Config) : sweepCycles c c.planeCount = bankCycles c := by
  rw [bankCycles_eq_sum]
  exact Finset.sum_range_reflect (planeCycles c) c.planeCount

/-! ### A bank sweep -/

section
variable {s : State} (h : Inv s) (hq : s.seq.state = .idle) (hp : s.seq.bitPlane = s.cfg.planeCount - 1)
include h hq hp

/-- The j-th Idle of a bank sweep is that of plane P - 1 - j. -/
theorem iterate_edge_sweep {j : Nat} (hj : j < s.cfg.planeCount) :
    (edge^[sweepCycles s.cfg j] s).seq.state = .idle ∧
    (edge^[sweepCycles s.cfg j] s).seq.bitPlane = s.cfg.planeCount - 1 - j ∧
    (edge^[sweepCycles s.cfg j] s).seq.bank = s.seq.bank := by
  induction j with
  | zero => exact ⟨hq, hp, rfl⟩
  | succ j ih =>
    obtain ⟨hidle, hplane, hbank⟩ := ih (Nat.lt_of_succ_lt hj)
    have hnext := iterate_edge_planePeriod (inv_iterate h _) hidle
    have hne : s.cfg.planeCount - 1 - j ≠ 0 := by omega
    rw [iterate_edge_cfg, hplane] at hnext
    rw [sweepCycles_succ, Nat.add_comm, Function.iterate_add_apply, hnext]
    refine ⟨rfl, ?_, ?_⟩
    · simp only [nextPlaneRegs, hplane, hne, if_false]
      omega
    · simp only [nextPlaneRegs, hplane, hne, if_false, hbank]

/-- A bank sweep ends with the reset registers in the next bank. -/
theorem iterate_edge_bankCycles : (edge^[bankCycles s.cfg] s).seq =
    { resetSeqRegs s.cfg with bank := (s.seq.bank + 1) % s.cfg.bankCount } := by
  obtain ⟨P, hP⟩ : ∃ P, s.cfg.planeCount = P + 1 := by
    obtain ⟨⟨-, -, hP, -⟩, -⟩ := h
    exact ⟨_, (Nat.sub_add_cancel hP).symm⟩
  obtain ⟨hidle, hplane, hbank⟩ := iterate_edge_sweep h hq hp (j := P) (by omega)
  have hzero : s.cfg.planeCount - 1 - P = 0 := by omega
  have hnext := iterate_edge_planePeriod (inv_iterate h _) hidle
  have hsum := sweepCycles_planeCount s.cfg
  rw [hzero] at hplane
  rw [iterate_edge_cfg, hplane] at hnext
  rw [hP, sweepCycles_succ, hzero, Nat.add_comm] at hsum
  rw [← hsum, Function.iterate_add_apply, hnext]
  simp only [nextPlaneRegs, hplane, hbank, if_true]
  rfl

end

/-- Settles O56: by induction on the plane periods, and the one of plane 0 advances the bank. -/
theorem bankSweepVisitsPlanesDownward : Obligations.BankSweepVisitsPlanesDownward := by
  intro s h hr hq hp
  have hlive := live_of_inv h hr
  refine ⟨fun j hj => ⟨_, cycles_of_live hlive _, iterate_edge_sweep h hq hp hj⟩, _, cycles_of_live hlive _, ?_⟩
  rw [iterate_edge_bankCycles h hq hp]
  exact ⟨rfl, rfl, rfl⟩

/-! ### A frame -/

/-- After j bank sweeps from the reset registers the bank is j modulo B, and the rest as at reset. -/
theorem iterate_edge_banks {s : State} (h : Inv s) (hq : s.seq = resetSeqRegs s.cfg) (j : Nat) :
    (edge^[j * bankCycles s.cfg] s).seq = { resetSeqRegs s.cfg with bank := j % s.cfg.bankCount } := by
  induction j with
  | zero => rw [Nat.zero_mul, Nat.zero_mod]; exact hq
  | succ j ih =>
    have hnext := iterate_edge_bankCycles (inv_iterate h (j * bankCycles s.cfg)) (by rw [ih]; rfl)
      (by rw [ih, iterate_edge_cfg]; rfl)
    rw [iterate_edge_cfg, ih] at hnext
    rw [Nat.succ_mul, Nat.add_comm, Function.iterate_add_apply, hnext]
    simp only [Nat.mod_add_mod]

/-- Settles O57: B bank sweeps bring the bank back to 0. -/
theorem frameReturnsToResetRegisters : Obligations.FrameReturnsToResetRegisters := by
  intro s h hr hq
  have hlive := live_of_inv h hr
  refine ⟨_, cycles_of_live hlive _, ?_, (live_iterate hlive _).1, inv_iterate h _⟩
  rw [frameCycles, iterate_edge_banks h hq, Nat.mod_self]
  rfl

/-! ### The way to the next Idle from anywhere -/

/-- The half-periods of the shift clock still to come after the one the registers are in. -/
def halfPeriodsLeft (c : Config) (r : SeqRegs) : Nat :=
  2 * (c.chainLength - 1 - r.pixelIndex) + if r.sclk = true then 0 else 1

/-- The cycles to the next Idle. -/
def cyclesToIdle (c : Config) (r : SeqRegs) : Nat :=
  match r.state with
  | .idle => planeCycles c r.bitPlane
  | .shiftOut => r.delayCounter + 1 + (halfPeriodsLeft c r + 3) * c.clkDelay + waitCycles c r.bitPlane
  | .latchPre => r.delayCounter + 1 + 2 * c.clkDelay + waitCycles c r.bitPlane
  | .latch => r.delayCounter + 1 + c.clkDelay + waitCycles c r.bitPlane
  | .latchPost => r.delayCounter + 1 + waitCycles c r.bitPlane
  | .blank => r.blankCounter + 1
  | .reserved110 => 0
  | .reserved111 => 0

/-- Every clock edge brings the next Idle one cycle nearer, and the last one reaches it. -/
theorem nextSeq_nearer_idle {s : State} (h : Inv s) : (nextSeq s).state = .idle ∨
    cyclesToIdle s.cfg (nextSeq s) + 1 = cyclesToIdle s.cfg s.seq := by
  obtain ⟨⟨hN, -, -, hD, -⟩, hb, ⟨hpix, -⟩, ⟨hres, -⟩, -⟩ := h
  refine nextSeq_cases (fun r => r.state = .idle ∨ cyclesToIdle s.cfg r + 1 = cyclesToIdle s.cfg s.seq) hres ?idle
    ?wait ?rise ?fall ?last ?preEnd ?latchEnd ?postEnd ?blankWait ?endPlane ?endBank
  case endPlane => exact fun _ _ _ => .inl rfl
  case endBank => exact fun _ _ _ => .inl rfl
  case idle =>
    intro hq
    have hleft : 2 * (s.cfg.chainLength - 1) + 1 + 3 + 1 = 2 * s.cfg.chainLength + 3 := by omega
    have hmul := Nat.succ_mul (2 * (s.cfg.chainLength - 1) + 1 + 3) s.cfg.clkDelay
    rw [Nat.succ_eq_add_one, hleft] at hmul
    simp only [cyclesToIdle, halfPeriodsLeft, hq, planeCycles_eq, hmul, Nat.sub_zero, Bool.false_eq_true, if_false]
    omega
  case wait =>
    intro hq hd
    cases hs : s.seq.state <;> simp only [hs, SeqState.isTimed, Bool.false_eq_true] at hq
    all_goals
      simp only [cyclesToIdle, halfPeriodsLeft, hs]
      omega
  case rise =>
    intro hq hd hc
    have hmul := Nat.succ_mul (2 * (s.cfg.chainLength - 1 - s.seq.pixelIndex) + 3) s.cfg.clkDelay
    rw [Nat.succ_eq_add_one, Nat.add_right_comm] at hmul
    simp only [cyclesToIdle, halfPeriodsLeft, hq, hd, hc, hmul, Bool.false_eq_true, if_false, if_true, Nat.add_zero]
    omega
  case fall =>
    intro hq hd hc hp
    have hleft : 2 * (s.cfg.chainLength - 1 - s.seq.pixelIndex) + 3 =
        2 * (s.cfg.chainLength - 1 - (s.seq.pixelIndex + 1)) + 1 + 3 + 1 := by omega
    have hmul := Nat.succ_mul (2 * (s.cfg.chainLength - 1 - (s.seq.pixelIndex + 1)) + 1 + 3) s.cfg.clkDelay
    rw [Nat.succ_eq_add_one, ← hleft] at hmul
    simp only [cyclesToIdle, halfPeriodsLeft, hq, hd, hc, hmul, Bool.false_eq_true, if_false, if_true, Nat.add_zero]
    omega
  case last =>
    intro hq hd hc hp
    simp only [cyclesToIdle, halfPeriodsLeft, hq, hd, hc, hp, if_true, Nat.sub_self]
    omega
  case preEnd =>
    intro hq hd
    simp only [cyclesToIdle, hq, hd]
    omega
  case latchEnd =>
    intro hq hd
    simp only [cyclesToIdle, hq, hd]
    omega
  case postEnd =>
    intro hq hd
    have hw := waitCycles_pos s.cfg s.seq.bitPlane
    simp only [cyclesToIdle, hq, hd, blankReload, scheduleEntry_of_built hb]
    omega
  case blankWait =>
    intro hq hb
    simp only [cyclesToIdle, hq]
    omega

/-- No state in range is further from Idle than the longest plane period. -/
theorem cyclesToIdle_le {s : State} (h : Inv s) :
    1 ≤ cyclesToIdle s.cfg s.seq ∧ cyclesToIdle s.cfg s.seq ≤ planeCycles s.cfg (s.cfg.planeCount - 1) := by
  obtain ⟨⟨hN, -, -, hD, -⟩, -, ⟨hpix, -, hplane, hdelay, hblank⟩, ⟨hres, -, -⟩, -⟩ := h
  have hmax := waitCycles_mono s.cfg (Nat.le_sub_one_of_lt hplane)
  have hsplit := Nat.add_mul (2 * s.cfg.chainLength) 3 s.cfg.clkDelay
  have hleft : (halfPeriodsLeft s.cfg s.seq + 3 + 1) * s.cfg.clkDelay ≤
      (2 * s.cfg.chainLength + 3) * s.cfg.clkDelay := by
    refine Nat.mul_le_mul_right _ ?_
    unfold halfPeriodsLeft
    split <;> omega
  rw [Nat.succ_mul] at hleft
  rw [planeCycles_eq]
  cases hs : s.seq.state <;> simp only [cyclesToIdle, hs, planeCycles_eq]
  case reserved110 => simp [hs, SeqState.isReserved] at hres
  case reserved111 => simp [hs, SeqState.isReserved] at hres
  all_goals omega

/-- A machine that is at most n cycles from Idle reaches it within n cycles. -/
theorem exists_idle_of_cyclesToIdle_le {n : Nat} {s : State} (h : Inv s) (hn : cyclesToIdle s.cfg s.seq ≤ n) :
    ∃ m, 1 ≤ m ∧ m ≤ n ∧ (edge^[m] s).seq.state = .idle := by
  induction n generalizing s with
  | zero => exact absurd ((cyclesToIdle_le h).1.trans hn) (by decide)
  | succ n ih =>
    rcases nextSeq_nearer_idle h with hidle | hnear
    · exact ⟨1, Nat.le_refl 1, Nat.le_add_left 1 n, hidle⟩
    · have hedge : cyclesToIdle (edge s).cfg (edge s).seq ≤ n := by
        rw [edge_cfg, edge_seq]
        omega
      obtain ⟨m, -, hm, hidle⟩ := ih (inv_edge h) hedge
      exact ⟨m + 1, Nat.le_add_left 1 m, Nat.succ_le_succ hm, hidle⟩

/-- Settles O58: the cycles to the next Idle are at most the longest plane period. -/
theorem idleWithinLongestPlanePeriod : Obligations.IdleWithinLongestPlanePeriod := by
  intro s h hr
  obtain ⟨n, h1, hn, hidle⟩ := exists_idle_of_cyclesToIdle_le h (cyclesToIdle_le h).2
  exact ⟨n, edge^[n] s, h1, hn, cycles_of_live (live_of_inv h hr) n, hidle⟩

end Sys2Proof.Machine
end

section
/-! PROOFS. Construction (60_exceptions.md R222 to R224, 70_reset_and_hazards.md R254, R255): the checks in their
order, the admission of a request field by field, and the constructed core. -/

namespace Sys2Proof.Machine

/-! ### The checks -/

/-- The first failing check: those before it in the order of 60 R222 pass, and it does not. -/
theorem firstFailure_eq_some {c : Config} {k : CheckId} (pre post : List CheckId) (hsplit : checkOrder = pre ++ k :: post)
    (hpre : ∀ j ∈ pre, checkPasses c j = true) (hk : checkPasses c k = false) : firstFailure c = some k := by
  have hnone : pre.find? (fun j => !checkPasses c j) = none := List.find?_eq_none.2 fun j hj => by simp [hpre j hj]
  rw [firstFailure, hsplit, List.find?_append, hnone, Option.none_or, List.find?_cons_of_pos (by simp [hk])]

/-- Settles O34: check by check, with the checks before it passed. -/
theorem configValidateRaisesFirstFailure : Obligations.ConfigValidateRaisesFirstFailure := by
  intro s c hreq hg hG hF hfl
  obtain ⟨hfault, hnext⟩ :=
    execConfigValidate_of_admitted (s := s) (c := c) (by rw [hreq, admitRequest_requestOf hg hG hF hfl])
  have fails {k : CheckId} (pre post : List CheckId) (hsplit : checkOrder = pre ++ k :: post)
      (hpre : ∀ j ∈ pre, checkPasses c j = true) (hk : checkPasses c k = false) :=
    hfault k (firstFailure_eq_some pre post hsplit hpre hk)
  refine ⟨fun hN => fails [] _ rfl nofun (decide_eq_false (by omega)), fun hN => ?_⟩
  have pN : checkPasses c .gChain = true := decide_eq_true hN
  refine ⟨fun hB => fails [.gChain] _ rfl (by simp [pN]) (decide_eq_false (by omega)), fun hB hpow => ?_,
    fun hpow => ?_⟩
  · have pB : checkPasses c .gBankZero = true := decide_eq_true hB
    refine fails [.gChain, .gBankZero] _ rfl (by simp [pN, pB]) (Bool.eq_false_iff.2 fun h => ?_)
    obtain ⟨k, hk⟩ := (isPowerOfTwo_iff _).1 h
    exact hpow k hk
  have pB : checkPasses c .gBankZero = true := by
    obtain ⟨k, hk⟩ := hpow
    exact decide_eq_true (hk ▸ Nat.one_le_two_pow)
  have pPow : checkPasses c .gBankPow2 = true := (isPowerOfTwo_iff _).2 hpow
  refine ⟨fun hP => fails [.gChain, .gBankZero, .gBankPow2] _ rfl (by simp [pN, pB, pPow])
    (decide_eq_false (by omega)), fun hP => ?_⟩
  have pP : checkPasses c .tPlanes = true := decide_eq_true hP
  refine ⟨fun hD => fails [.gChain, .gBankZero, .gBankPow2, .tPlanes] _ rfl (by simp [pN, pB, pPow, pP])
    (decide_eq_false (by omega)), fun hD => ?_⟩
  have pD : checkPasses c .tDelay = true := decide_eq_true hD
  refine ⟨fun hF => fails [.gChain, .gBankZero, .gBankPow2, .tPlanes, .tDelay] _ rfl
    (by simp [pN, pB, pPow, pP, pD]) (decide_eq_false (by rw [hF]; exact lt_irrefl 0)), fun hF => ?_⟩
  have pF : checkPasses c .tFreq = true := decide_eq_true hF
  refine ⟨fun hW => fails [.gChain, .gBankZero, .gBankPow2, .tPlanes, .tDelay, .tFreq] _ rfl
    (by simp [pN, pB, pPow, pP, pD, pF]) (decide_eq_false (Nat.not_le_of_lt hW)), fun hW => ?_⟩
  have pW : checkPasses c .tBlankWidth = true := decide_eq_true hW
  refine ⟨fun f hf hlow => fails [.gChain, .gBankZero, .gBankPow2, .tPlanes, .tDelay, .tFreq, .tBlankWidth] _ rfl
    (by simp [pN, pB, pPow, pP, pD, pF, pW]) (Bool.eq_false_iff.2 fun h => ?_), fun hmet => ?_⟩
  · exact absurd ((refreshFloorMet_iff c).1 h f hf) (not_le_of_gt hlow)
  · have pR : checkPasses c .tRefresh = true := (refreshFloorMet_iff c).2 hmet
    exact hnext ((firstFailure_eq_none c).2 fun k => by cases k <;> assumption)

/-! ### Admission -/

/-- CONFIG_VALIDATE refuses a request exactly if admission does, under the same field. -/
theorem execConfigValidate_eq_unmodelled (s : State) (f : ConfigField) :
    exec .configValidate s = .refused (.unmodelled f) ↔ admitRequest s.request = .error f := by
  constructor
  · intro h
    cases ha : admitRequest s.request with
    | error e =>
      rw [exec, execConfigValidate_of_refused ha] at h
      cases h
      rfl
    | ok c =>
      obtain ⟨hfault, hnext⟩ := execConfigValidate_of_admitted ha
      rw [exec] at h
      cases hf : firstFailure c with
      | some k => rw [hfault k hf] at h; cases h
      | none => rw [hnext hf] at h; cases h
  · exact execConfigValidate_of_refused

/-- A sequence of admissions refuses exactly if its first one does or the rest does. -/
theorem except_bind_error_iff {α β : Type} {x : Except ConfigField α} {g : α → Except ConfigField β} {a p : Prop}
    (hx : (∃ f, x = .error f) ↔ a) (hg : ∀ v, (∃ f, g v = .error f) ↔ p) : (∃ f, (x >>= g) = .error f) ↔ a ∨ p :=
  (except_bind_error x g p fun v _ => hg v).trans (or_congr_left hx)

/-- A request is not admitted exactly if one of its fields has no type of 00 R8. -/
theorem admitRequest_error_iff (r : Request) : (∃ f, admitRequest r = .error f) ↔
    NotNatural r.chainLength ∨ NotNatural r.bankCount ∨ NotNatural r.planeCount ∨ NotNatural r.clkDelay ∨
    NotNatural r.shortestTimeslot ∨ (NotNatural r.gamma ∨ r.gamma = 0) ∨ r.srcBits ≠ 8 ∨
    (NotNatural r.dstBits ∨ r.dstBits = 0) ∨ r.clkFreq < 0 ∨ (∃ f, r.refreshFloor = some f ∧ f ≤ 0) ∨
    (∃ w, r.blankCounterWidth = some w ∧ NotNatural w) ∨ False := by
  unfold admitRequest
  refine except_bind_error_iff (natField_error ..) fun n => ?_
  refine except_bind_error_iff (natField_error ..) fun b => ?_
  refine except_bind_error_iff (natField_error ..) fun p => ?_
  refine except_bind_error_iff (natField_error ..) fun d => ?_
  refine except_bind_error_iff (natField_error ..) fun t => ?_
  refine except_bind_error_iff (posNatField_error ..) fun gam => ?_
  refine except_bind_error_iff (srcBitsField_error _) fun _ => ?_
  refine except_bind_error_iff (posNatField_error ..) fun g => ?_
  refine except_bind_error_iff (clkFreqField_error _) fun f => ?_
  refine except_bind_error_iff (refreshFloorField_error _) fun fl => ?_
  refine except_bind_error_iff (blankWidthField_error ..) fun w => ?_
  exact iff_of_false nofun id

theorem clkFreqField_of_nonneg {q : Rat} (h : 0 ≤ q) : clkFreqField q = .ok q := if_pos h
theorem clkFreqField_of_neg {q : Rat} (h : q < 0) : clkFreqField q = .error .clkFreq := if_neg (not_le_of_gt h)
theorem srcBitsField_8 : srcBitsField 8 = .ok () := if_pos rfl
theorem srcBitsField_of_ne {q : Rat} (h : q ≠ 8) : srcBitsField q = .error .srcBits := if_neg h
theorem refreshFloorField_of_nonpos {q : Rat} (h : q ≤ 0) : refreshFloorField (some q) = .error .refreshFloor :=
  if_neg (not_lt_of_ge h)

/-- Settles O35: admission stops at its first error, and the other fields are those of an admitted request. -/
theorem admissionRefusesUntypedFields : Obligations.AdmissionRefusesUntypedFields := by
  refine ⟨fun s => ?_, fun s c q hg hG hF hfl => ?_, fun c hg hG hF hfl => ?_⟩
  · simp only [execConfigValidate_eq_unmodelled, admitRequest_error_iff, or_assoc, or_false]
  · simp only [execConfigValidate_eq_unmodelled]
    refine ⟨?_, ?_, ?_, ?_, ?_, ?_, ?_, ?_, ?_, ?_, ?_⟩
    all_goals
      intro hq hs
      rw [hs]
      simp [admitRequest, requestOf, posNatField_cast _ hg, posNatField_cast _ hG, srcBitsField_8,
        clkFreqField_of_nonneg hF, refreshFloorField_of_pos hfl, blankWidthField, natField_of_notNatural,
        posNatField_of_notPositive, srcBitsField_of_ne, clkFreqField_of_neg, refreshFloorField_of_nonpos, hq]
      rfl
  · simp [admitRequest, requestOf, posNatField_cast _ hg, posNatField_cast _ hG, srcBitsField_8,
      clkFreqField_of_nonneg hF, refreshFloorField_of_pos hfl, blankWidthField]
    rfl

/-! ### The constructed core -/

/-- CONFIG_VALIDATE reads the request only: it stops two states with the same request in the same way. -/
theorem execConfigValidate_stop_congr {s t : State} (h : s.request = t.request) :
    (∀ e, exec .configValidate s = .fault e → exec .configValidate t = .fault e) ∧
    (∀ e, exec .configValidate s = .refused e → exec .configValidate t = .refused e) := by
  simp only [exec]
  cases ha : admitRequest t.request with
  | error f =>
    rw [execConfigValidate_of_refused ha, execConfigValidate_of_refused (by rw [h, ha])]
    exact ⟨fun _ h => h, fun _ h => h⟩
  | ok c =>
    obtain ⟨hfault, hnext⟩ := execConfigValidate_of_admitted (s := s) (by rw [h, ha])
    obtain ⟨hfault', hnext'⟩ := execConfigValidate_of_admitted ha
    cases hf : firstFailure c with
    | some k =>
      rw [hfault k hf, hfault' k hf]
      exact ⟨fun _ h => h, fun _ h => h⟩
    | none =>
      rw [hnext hf, hnext' hf]
      exact ⟨nofun, nofun⟩

/-- Where admission and the checks pass, a construction answers the core of the configuration. -/
theorem construct_of_admitted {r : Request} {c : Config} (s : State) (ha : admitRequest r = .ok c)
    (hf : firstFailure c = none) : construct r s = .next (constructed s r c) := by
  have hval := (execConfigValidate_of_admitted (s := s.withRequest r) ha).2 hf
  rw [construct, exec, hval]
  rfl

/-- Settles O36: the host's action is a construction, which CONFIG_VALIDATE begins. -/
theorem constructionUnderReset : Obligations.ConstructionUnderReset := by
  intro s r rest hh
  have hreset (hl : s.resetLine = true) : step s = construct r (s.withHost rest) := by
    simp [step_of_action hh, hostAct, hl]
  obtain ⟨hfault, hrefused⟩ := execConfigValidate_stop_congr
    (s := { s with request := r }) (t := (s.withHost rest).withRequest r) rfl
  refine ⟨fun c hl hr hv => ?_, fun e hl he => ?_, fun e hl he => ?_, fun hl => ?_⟩
  · obtain ⟨-, -, -, -, hF, -, hfl, hg, hG⟩ := id hv
    have ha : admitRequest r = .ok c := by rw [hr, admitRequest_requestOf hg hG hF.le fun f h => (hfl f h).1]
    rw [hreset hl, construct_of_admitted _ ha (firstFailure_of_valid hv)]
    rfl
  · rw [hreset hl, construct, hfault e he]
    rfl
  · rw [hreset hl, construct, hrefused e he]
    rfl
  · simp [step_of_action hh, hostAct, hl]

end Sys2Proof.Machine
end
